-- ==== Sys2Proof/Word.lean ====
section
/-! DEFINITION. The fixed widths of the machine (00_scope.md R7): a memory cell and an 8-bit register, a 16-bit
register and logical address, a 20-bit physical address. -/

namespace Sys2Proof

/-- A memory cell, an 8-bit register, an instruction byte (R7). -/
abbrev Byte := BitVec 8

/-- A 16-bit register or register pair, and a logical address (R7). -/
abbrev Word := BitVec 16

/-- A 20-bit physical address (R7, R60). -/
abbrev Addr20 := BitVec 20

end Sys2Proof
end

