-- ==== Sys2Proof/Config.lean ====
section
/-! DEFINITION. The spec's parameters (00_scope.md section 4, 93_implementation_defined.md) as plain data, and the
free values: constants without a body, of which nothing can be proved. DESIGN CHOICE: the parameters stand in State
(log 1), so a statement over all states is a statement over all of their values. -/

namespace Sys2Proof

/-- The two I/O spaces, selected by the prefixes IOI and IOE (R9, R60). -/
inductive IoSpace where
  | internal
  | external
deriving DecidableEq, Repr

/-- Parameter SU_ON_TRAP (R11): whether RST, SYSCALL and interrupt entry also push system mode onto SU. -/
inductive SuOnTrap where
  | unchanged
  | pushSystem
deriving DecidableEq, Repr

/-- What UMS leaves in (DE', CF) (U2): the literal 25-bit reading of R169, the second reading R169 describes, or a
configuration function of the operands that nothing constrains. -/
inductive UmsReading where
  | literal
  | borrowChain
  | free
deriving DecidableEq, Repr

/-- Parameter Translate (R8): the segment registers of R66 (PRESUMED: the spec marks that rule general knowledge),
or a free function of XPC and the logical address, named by an index (log 2). -/
inductive Translation where
  | segments
  | free (k : Nat)
deriving DecidableEq, Repr

/-- The parameters of the machine. No instruction writes one. -/
structure Config where
  /-- IS_3000A (R6). -/
  is3000A : Bool
  /-- SU_ON_TRAP (R11). -/
  suOnTrap : SuOnTrap
  /-- FLAG_TABLE_TRUSTED (R10). -/
  flagTableTrusted : Bool
  /-- U1's switch: LJP performs its two writes whatever its target is. -/
  ljpAnyTarget : Bool
  /-- U2: the reading of (DE', CF) after UMS. -/
  umsReading : UmsReading
  /-- Translate (R8). -/
  translation : Translation
  /-- IO_WAIT_STATES (R9); read by the clock table alone. -/
  ioWaitStates : Nat
deriving DecidableEq, Repr

/-- Free value: the translation numbered `k`, of XPC and a logical address (R8, D7; log 2). -/
opaque Config.freeTranslate : (k : Nat) → (xpc : Byte) → (a : Word) → Addr20

/-- Free value: the `n`-th draw of the run, eight unconstrained bits (R17; log 9). -/
opaque Config.draw : (n : Nat) → Byte

/-- Free value: what the `n`-th I/O read of the run answers when the environment's list gives nothing (R9; log 10). -/
opaque Config.ioByte : (n : Nat) → (space : IoSpace) → (a : Word) → Byte

/-- Free value: (DE', CF) after UMS from (x, y, DE, DE', CF) under the free reading (U2; log 22). -/
opaque Config.umsHigh : (x y : Byte) → (de deAlt : Word) → (cf : Bool) → Word × Bool

end Sys2Proof
end

