-- ==== Sys2Proof/Syntax.lean ====
section
/-! DEFINITION. The syntax of the machine: its operand names and the ONE inductive `Instr`, one constructor for each
of the 357 rows of spec/opcode_table.json (30_encoding.md R91: register, condition, pair and bit-number fields are
expanded into rows). An operand in parentheses is spelled `At`: `RES 3,(IX+d)` is `res3AtIXd`. Field types are the
widths of R97, so every value of a field is one the encoding admits. -/

namespace Sys2Proof

/-- The operand `r` (R18, R20, R93). -/
inductive Reg8 where
  | b | c | d | e | h | l | a
deriving DecidableEq, Repr

/-- The index registers (R22). -/
inductive Index where
  | ix | iy
deriving DecidableEq, Repr

/-- The operand `zz` of PUSH and POP (R18, R94). -/
inductive Pair where
  | bc | de | hl | af
deriving DecidableEq, Repr

/-- The operand `ss` of SBC HL,ss (R18, R94). -/
inductive Ss where
  | bc | de | hl | sp
deriving DecidableEq, Repr

/-- The condition `f` of RET f (R29, R95). -/
inductive Cond where
  | nz | z | nc | c | lz | lo | p | m
deriving DecidableEq, Repr

/-- A memory operand of one byte: (HL), (IX+d), (IY+d) (R61, R72). -/
inductive MemArg where
  | hl
  | indexed (i : Index) (d : Byte)
deriving DecidableEq, Repr

/-- The four 8-bit operations whose destination is A (43_arith.md, 44_logic.md). -/
inductive Alu where
  | sub | sbc | xor | or
deriving DecidableEq, Repr

/-- The seven rotates and shifts of a byte (R270). -/
inductive Rot where
  | rlc | rrc | rl | rr | sla | sra | srl
deriving DecidableEq, Repr

/-- RES and SET (R260). -/
inductive BitOp where
  | res | set
deriving DecidableEq, Repr

/-- The restart numbers of RST v (R96, R145). -/
inductive Restart where
  | v10 | v18 | v20 | v28 | v38
deriving DecidableEq, Repr

/-- The block copies (42_block.md section 2). -/
inductive Copy where
  | lsdr | lsir | lsddr | lsidr
deriving DecidableEq, Repr

/-- The instructions: one constructor for each row of spec/opcode_table.json, first the rows with operand bytes, then
the rows without, each in the table's order. -/
inductive Instr where
  | ldpAtMnHL (mn : Word)
  | ldpAtMnIX (mn : Word)
  | ldpAtMnIY (mn : Word)
  | ldpHLAtMn (mn : Word)
  | ldpIXAtMn (mn : Word)
  | ldpIYAtMn (mn : Word)
  | ljp (x : Byte) (mn : Word)
  | subAtIXd (d : Byte)
  | subAtIYd (d : Byte)
  | subN (n : Byte)
  | sbcAtIXd (d : Byte)
  | sbcAtIYd (d : Byte)
  | sbcAN (n : Byte)
  | orAtIXd (d : Byte)
  | orAtIYd (d : Byte)
  | orN (n : Byte)
  | xorAtIXd (d : Byte)
  | xorAtIYd (d : Byte)
  | xorN (n : Byte)
  | res0AtIXd (d : Byte)
  | res1AtIXd (d : Byte)
  | res2AtIXd (d : Byte)
  | res3AtIXd (d : Byte)
  | res4AtIXd (d : Byte)
  | res5AtIXd (d : Byte)
  | res6AtIXd (d : Byte)
  | res7AtIXd (d : Byte)
  | res0AtIYd (d : Byte)
  | res1AtIYd (d : Byte)
  | res2AtIYd (d : Byte)
  | res3AtIYd (d : Byte)
  | res4AtIYd (d : Byte)
  | res5AtIYd (d : Byte)
  | res6AtIYd (d : Byte)
  | res7AtIYd (d : Byte)
  | set0AtIXd (d : Byte)
  | set1AtIXd (d : Byte)
  | set2AtIXd (d : Byte)
  | set3AtIXd (d : Byte)
  | set4AtIXd (d : Byte)
  | set5AtIXd (d : Byte)
  | set6AtIXd (d : Byte)
  | set7AtIXd (d : Byte)
  | set0AtIYd (d : Byte)
  | set1AtIYd (d : Byte)
  | set2AtIYd (d : Byte)
  | set3AtIYd (d : Byte)
  | set4AtIYd (d : Byte)
  | set5AtIYd (d : Byte)
  | set6AtIYd (d : Byte)
  | set7AtIYd (d : Byte)
  | rlAtIXd (d : Byte)
  | rlAtIYd (d : Byte)
  | rlcAtIXd (d : Byte)
  | rlcAtIYd (d : Byte)
  | rrAtIXd (d : Byte)
  | rrAtIYd (d : Byte)
  | rrcAtIXd (d : Byte)
  | rrcAtIYd (d : Byte)
  | slaAtIXd (d : Byte)
  | slaAtIYd (d : Byte)
  | sraAtIXd (d : Byte)
  | sraAtIYd (d : Byte)
  | srlAtIXd (d : Byte)
  | srlAtIYd (d : Byte)
  | ldpAtHLHL
  | ldpAtIXHL
  | ldpAtIYHL
  | ldpHLAtHL
  | ldpHLAtIX
  | ldpHLAtIY
  | lret
  | ret
  | retNZ
  | retZ
  | retNC
  | retC
  | retLZ
  | retLO
  | retP
  | retM
  | reti
  | rst10
  | rst18
  | rst20
  | rst28
  | rst38
  | syscall
  | lsdr
  | ioiLsdr
  | ioeLsdr
  | lsir
  | ioiLsir
  | ioeLsir
  | lsddr
  | ioiLsddr
  | ioeLsddr
  | lsidr
  | ioiLsidr
  | ioeLsidr
  | uma
  | ums
  | mul
  | neg
  | subAtHL
  | subB
  | subC
  | subD
  | subE
  | subH
  | subL
  | subA
  | sbcAAtHL
  | sbcAB
  | sbcAC
  | sbcAD
  | sbcAE
  | sbcAH
  | sbcAL
  | sbcAA
  | sbcHLBC
  | sbcHLDE
  | sbcHLHL
  | sbcHLSP
  | nop
  | orAtHL
  | orHLDE
  | orIXDE
  | orIYDE
  | orB
  | orC
  | orD
  | orE
  | orH
  | orL
  | orA
  | xorAtHL
  | xorB
  | xorC
  | xorD
  | xorE
  | xorH
  | xorL
  | xorA
  | scf
  | popIP
  | popIX
  | popIY
  | popSU
  | popAF
  | popBC
  | popDE
  | popHL
  | pushIP
  | pushIX
  | pushIY
  | pushAF
  | pushBC
  | pushDE
  | pushHL
  | pushSU
  | res0AtHL
  | res1AtHL
  | res2AtHL
  | res3AtHL
  | res4AtHL
  | res5AtHL
  | res6AtHL
  | res7AtHL
  | res0B
  | res0C
  | res0D
  | res0E
  | res0H
  | res0L
  | res0A
  | res1B
  | res1C
  | res1D
  | res1E
  | res1H
  | res1L
  | res1A
  | res2B
  | res2C
  | res2D
  | res2E
  | res2H
  | res2L
  | res2A
  | res3B
  | res3C
  | res3D
  | res3E
  | res3H
  | res3L
  | res3A
  | res4B
  | res4C
  | res4D
  | res4E
  | res4H
  | res4L
  | res4A
  | res5B
  | res5C
  | res5D
  | res5E
  | res5H
  | res5L
  | res5A
  | res6B
  | res6C
  | res6D
  | res6E
  | res6H
  | res6L
  | res6A
  | res7B
  | res7C
  | res7D
  | res7E
  | res7H
  | res7L
  | res7A
  | set0AtHL
  | set1AtHL
  | set2AtHL
  | set3AtHL
  | set4AtHL
  | set5AtHL
  | set6AtHL
  | set7AtHL
  | set0B
  | set0C
  | set0D
  | set0E
  | set0H
  | set0L
  | set0A
  | set1B
  | set1C
  | set1D
  | set1E
  | set1H
  | set1L
  | set1A
  | set2B
  | set2C
  | set2D
  | set2E
  | set2H
  | set2L
  | set2A
  | set3B
  | set3C
  | set3D
  | set3E
  | set3H
  | set3L
  | set3A
  | set4B
  | set4C
  | set4D
  | set4E
  | set4H
  | set4L
  | set4A
  | set5B
  | set5C
  | set5D
  | set5E
  | set5H
  | set5L
  | set5A
  | set6B
  | set6C
  | set6D
  | set6E
  | set6H
  | set6L
  | set6A
  | set7B
  | set7C
  | set7D
  | set7E
  | set7H
  | set7L
  | set7A
  | rlAtHL
  | rlB
  | rlC
  | rlD
  | rlE
  | rlH
  | rlL
  | rlA
  | rlDE
  | rla
  | rlcAtHL
  | rlcB
  | rlcC
  | rlcD
  | rlcE
  | rlcH
  | rlcL
  | rlcA
  | rlca
  | rrAtHL
  | rrB
  | rrC
  | rrD
  | rrE
  | rrH
  | rrL
  | rrA
  | rrDE
  | rrHL
  | rrIX
  | rrIY
  | rra
  | rrcAtHL
  | rrcB
  | rrcC
  | rrcD
  | rrcE
  | rrcH
  | rrcL
  | rrcA
  | rrca
  | slaAtHL
  | slaB
  | slaC
  | slaD
  | slaE
  | slaH
  | slaL
  | slaA
  | sraAtHL
  | sraB
  | sraC
  | sraD
  | sraE
  | sraH
  | sraL
  | sraA
  | srlAtHL
  | srlB
  | srlC
  | srlD
  | srlE
  | srlH
  | srlL
  | srlA
  | rdmode
  | setusr
  | sures
deriving DecidableEq, Repr

end Sys2Proof
end

