-- ==== Sys2Proof/WellFormed.lean ====
section
/-! DEFINITION. Well-formed instructions. Every field of an `Instr` has the width its encoding gives it (R97), so the
one check left is the level: the twelve instructions the source marks "Rabbit 3000A" (twenty rows with their prefixed
forms) are instructions of a 3000A only (00_scope.md R2, R6; 30_encoding.md R108). -/

namespace Sys2Proof

/-- The rows whose level is R3000A (R2, R91: 20 rows). -/
def Instr.needs3000A : Instr → Bool
  | .syscall | .lsdr | .ioiLsdr | .ioeLsdr
  | .lsir | .ioiLsir | .ioeLsir | .lsddr
  | .ioiLsddr | .ioeLsddr | .lsidr | .ioiLsidr
  | .ioeLsidr | .uma | .ums | .popSU
  | .pushSU | .rdmode | .setusr | .sures => true
  | _ => false

/-- An instruction of this part: every instruction on a 3000A, the BASE ones otherwise (R6, D12). -/
def Instr.wellFormed (is3000A : Bool) (i : Instr) : Bool :=
  is3000A || !i.needs3000A

end Sys2Proof
end

