-- ==== Sys2Proof/Decode.lean ====
section
/-! DEFINITION. The decoder of 30_encoding.md (R93 to R104), total on any bytes, rejecting by name, and after it the
encoder, written row by row from the same tables. Also here: the byte-order helpers, and the views that name a
constructor by its fields (`Instr.aluReg .or .b` is `orB`). -/

namespace Sys2Proof

/-- `{h, l}`, the word with high byte `h` and low byte `l` (R13, R68). -/
def word (h l : Byte) : Word := h ++ l

/-- Bits 15:8 of a word. -/
def hiByte (w : Word) : Byte := w.extractLsb' 8 8

/-- Bits 7:0 of a word. -/
def loByte (w : Word) : Byte := w.extractLsb' 0 8

/-! ## Fields (R93 to R96) -/

/-- Bits [7:6] of an opcode byte. -/
def fieldX (b : Byte) : Nat := b.toNat / 64

/-- Bits [5:3] of an opcode byte: the field `f`, `b` or `t` (R95, R96). -/
def fieldY (b : Byte) : Fin 8 := Fin.ofNat 8 (b.toNat / 8)

/-- Bits [2:0] of an opcode byte: the field `r`, or 110 for (HL) (R93). -/
def fieldZ (b : Byte) : Fin 8 := Fin.ofNat 8 b.toNat

/-- The register field `r`; 110 selects the memory operand instead (R93). -/
def regOfField : Fin 8 → Option Reg8
  | 0 => some .b
  | 1 => some .c
  | 2 => some .d
  | 3 => some .e
  | 4 => some .h
  | 5 => some .l
  | 6 => none
  | 7 => some .a

/-- The condition field `f` (R95). -/
def condOfField : Fin 8 → Cond
  | 0 => .nz
  | 1 => .z
  | 2 => .nc
  | 3 => .c
  | 4 => .lz
  | 5 => .lo
  | 6 => .p
  | 7 => .m

/-- The 8-bit operation selected by bits [5:3] of `10yyyrrr` (R98): 2 SUB, 3 SBC, 5 XOR, 6 OR. -/
def aluOfField : Fin 8 → Option Alu
  | 2 => some .sub
  | 3 => some .sbc
  | 5 => some .xor
  | 6 => some .or
  | _ => none

/-- The rotate or shift selected by bits [5:3] of `00xxxrrr` on the CB page (R100); 110 is not in the source. -/
def rotOfField : Fin 8 → Option Rot
  | 0 => some .rlc
  | 1 => some .rrc
  | 2 => some .rl
  | 3 => some .rr
  | 4 => some .sla
  | 5 => some .sra
  | 6 => none
  | 7 => some .srl

/-! ## Views: the constructor for given fields -/

/-- `op r` into A (R188, R194, R219, R224). -/
def Instr.aluReg : Alu → Reg8 → Instr
  | .sub, .b => .subB
  | .sub, .c => .subC
  | .sub, .d => .subD
  | .sub, .e => .subE
  | .sub, .h => .subH
  | .sub, .l => .subL
  | .sub, .a => .subA
  | .sbc, .b => .sbcAB
  | .sbc, .c => .sbcAC
  | .sbc, .d => .sbcAD
  | .sbc, .e => .sbcAE
  | .sbc, .h => .sbcAH
  | .sbc, .l => .sbcAL
  | .sbc, .a => .sbcAA
  | .xor, .b => .xorB
  | .xor, .c => .xorC
  | .xor, .d => .xorD
  | .xor, .e => .xorE
  | .xor, .h => .xorH
  | .xor, .l => .xorL
  | .xor, .a => .xorA
  | .or, .b => .orB
  | .or, .c => .orC
  | .or, .d => .orD
  | .or, .e => .orE
  | .or, .h => .orH
  | .or, .l => .orL
  | .or, .a => .orA

/-- `op (HL)`, `op (IX+d)`, `op (IY+d)` into A. -/
def Instr.aluAt : Alu → MemArg → Instr
  | .sub, .hl => .subAtHL
  | .sub, .indexed .ix d => .subAtIXd d
  | .sub, .indexed .iy d => .subAtIYd d
  | .sbc, .hl => .sbcAAtHL
  | .sbc, .indexed .ix d => .sbcAtIXd d
  | .sbc, .indexed .iy d => .sbcAtIYd d
  | .xor, .hl => .xorAtHL
  | .xor, .indexed .ix d => .xorAtIXd d
  | .xor, .indexed .iy d => .xorAtIYd d
  | .or, .hl => .orAtHL
  | .or, .indexed .ix d => .orAtIXd d
  | .or, .indexed .iy d => .orAtIYd d

/-- `op n` into A (R187, R193, R218, R223). -/
def Instr.aluN : Alu → Byte → Instr
  | .sub, n => .subN n
  | .sbc, n => .sbcAN n
  | .xor, n => .xorN n
  | .or, n => .orN n

/-- A rotate or shift of a register. -/
def Instr.rotReg : Rot → Reg8 → Instr
  | .rlc, .b => .rlcB
  | .rlc, .c => .rlcC
  | .rlc, .d => .rlcD
  | .rlc, .e => .rlcE
  | .rlc, .h => .rlcH
  | .rlc, .l => .rlcL
  | .rlc, .a => .rlcA
  | .rrc, .b => .rrcB
  | .rrc, .c => .rrcC
  | .rrc, .d => .rrcD
  | .rrc, .e => .rrcE
  | .rrc, .h => .rrcH
  | .rrc, .l => .rrcL
  | .rrc, .a => .rrcA
  | .rl, .b => .rlB
  | .rl, .c => .rlC
  | .rl, .d => .rlD
  | .rl, .e => .rlE
  | .rl, .h => .rlH
  | .rl, .l => .rlL
  | .rl, .a => .rlA
  | .rr, .b => .rrB
  | .rr, .c => .rrC
  | .rr, .d => .rrD
  | .rr, .e => .rrE
  | .rr, .h => .rrH
  | .rr, .l => .rrL
  | .rr, .a => .rrA
  | .sla, .b => .slaB
  | .sla, .c => .slaC
  | .sla, .d => .slaD
  | .sla, .e => .slaE
  | .sla, .h => .slaH
  | .sla, .l => .slaL
  | .sla, .a => .slaA
  | .sra, .b => .sraB
  | .sra, .c => .sraC
  | .sra, .d => .sraD
  | .sra, .e => .sraE
  | .sra, .h => .sraH
  | .sra, .l => .sraL
  | .sra, .a => .sraA
  | .srl, .b => .srlB
  | .srl, .c => .srlC
  | .srl, .d => .srlD
  | .srl, .e => .srlE
  | .srl, .h => .srlH
  | .srl, .l => .srlL
  | .srl, .a => .srlA

/-- A rotate or shift of a memory byte. -/
def Instr.rotAt : Rot → MemArg → Instr
  | .rlc, .hl => .rlcAtHL
  | .rlc, .indexed .ix d => .rlcAtIXd d
  | .rlc, .indexed .iy d => .rlcAtIYd d
  | .rrc, .hl => .rrcAtHL
  | .rrc, .indexed .ix d => .rrcAtIXd d
  | .rrc, .indexed .iy d => .rrcAtIYd d
  | .rl, .hl => .rlAtHL
  | .rl, .indexed .ix d => .rlAtIXd d
  | .rl, .indexed .iy d => .rlAtIYd d
  | .rr, .hl => .rrAtHL
  | .rr, .indexed .ix d => .rrAtIXd d
  | .rr, .indexed .iy d => .rrAtIYd d
  | .sla, .hl => .slaAtHL
  | .sla, .indexed .ix d => .slaAtIXd d
  | .sla, .indexed .iy d => .slaAtIYd d
  | .sra, .hl => .sraAtHL
  | .sra, .indexed .ix d => .sraAtIXd d
  | .sra, .indexed .iy d => .sraAtIYd d
  | .srl, .hl => .srlAtHL
  | .srl, .indexed .ix d => .srlAtIXd d
  | .srl, .indexed .iy d => .srlAtIYd d

/-- RES b,r (R264). -/
def Instr.resReg : Fin 8 → Reg8 → Instr
  | 0, .b => .res0B
  | 0, .c => .res0C
  | 0, .d => .res0D
  | 0, .e => .res0E
  | 0, .h => .res0H
  | 0, .l => .res0L
  | 0, .a => .res0A
  | 1, .b => .res1B
  | 1, .c => .res1C
  | 1, .d => .res1D
  | 1, .e => .res1E
  | 1, .h => .res1H
  | 1, .l => .res1L
  | 1, .a => .res1A
  | 2, .b => .res2B
  | 2, .c => .res2C
  | 2, .d => .res2D
  | 2, .e => .res2E
  | 2, .h => .res2H
  | 2, .l => .res2L
  | 2, .a => .res2A
  | 3, .b => .res3B
  | 3, .c => .res3C
  | 3, .d => .res3D
  | 3, .e => .res3E
  | 3, .h => .res3H
  | 3, .l => .res3L
  | 3, .a => .res3A
  | 4, .b => .res4B
  | 4, .c => .res4C
  | 4, .d => .res4D
  | 4, .e => .res4E
  | 4, .h => .res4H
  | 4, .l => .res4L
  | 4, .a => .res4A
  | 5, .b => .res5B
  | 5, .c => .res5C
  | 5, .d => .res5D
  | 5, .e => .res5E
  | 5, .h => .res5H
  | 5, .l => .res5L
  | 5, .a => .res5A
  | 6, .b => .res6B
  | 6, .c => .res6C
  | 6, .d => .res6D
  | 6, .e => .res6E
  | 6, .h => .res6H
  | 6, .l => .res6L
  | 6, .a => .res6A
  | 7, .b => .res7B
  | 7, .c => .res7C
  | 7, .d => .res7D
  | 7, .e => .res7E
  | 7, .h => .res7H
  | 7, .l => .res7L
  | 7, .a => .res7A

/-- RES b on a memory byte (R261 to R263). -/
def Instr.resAt : Fin 8 → MemArg → Instr
  | 0, .hl => .res0AtHL
  | 0, .indexed .ix d => .res0AtIXd d
  | 0, .indexed .iy d => .res0AtIYd d
  | 1, .hl => .res1AtHL
  | 1, .indexed .ix d => .res1AtIXd d
  | 1, .indexed .iy d => .res1AtIYd d
  | 2, .hl => .res2AtHL
  | 2, .indexed .ix d => .res2AtIXd d
  | 2, .indexed .iy d => .res2AtIYd d
  | 3, .hl => .res3AtHL
  | 3, .indexed .ix d => .res3AtIXd d
  | 3, .indexed .iy d => .res3AtIYd d
  | 4, .hl => .res4AtHL
  | 4, .indexed .ix d => .res4AtIXd d
  | 4, .indexed .iy d => .res4AtIYd d
  | 5, .hl => .res5AtHL
  | 5, .indexed .ix d => .res5AtIXd d
  | 5, .indexed .iy d => .res5AtIYd d
  | 6, .hl => .res6AtHL
  | 6, .indexed .ix d => .res6AtIXd d
  | 6, .indexed .iy d => .res6AtIYd d
  | 7, .hl => .res7AtHL
  | 7, .indexed .ix d => .res7AtIXd d
  | 7, .indexed .iy d => .res7AtIYd d

/-- SET b,r (R268). -/
def Instr.setReg : Fin 8 → Reg8 → Instr
  | 0, .b => .set0B
  | 0, .c => .set0C
  | 0, .d => .set0D
  | 0, .e => .set0E
  | 0, .h => .set0H
  | 0, .l => .set0L
  | 0, .a => .set0A
  | 1, .b => .set1B
  | 1, .c => .set1C
  | 1, .d => .set1D
  | 1, .e => .set1E
  | 1, .h => .set1H
  | 1, .l => .set1L
  | 1, .a => .set1A
  | 2, .b => .set2B
  | 2, .c => .set2C
  | 2, .d => .set2D
  | 2, .e => .set2E
  | 2, .h => .set2H
  | 2, .l => .set2L
  | 2, .a => .set2A
  | 3, .b => .set3B
  | 3, .c => .set3C
  | 3, .d => .set3D
  | 3, .e => .set3E
  | 3, .h => .set3H
  | 3, .l => .set3L
  | 3, .a => .set3A
  | 4, .b => .set4B
  | 4, .c => .set4C
  | 4, .d => .set4D
  | 4, .e => .set4E
  | 4, .h => .set4H
  | 4, .l => .set4L
  | 4, .a => .set4A
  | 5, .b => .set5B
  | 5, .c => .set5C
  | 5, .d => .set5D
  | 5, .e => .set5E
  | 5, .h => .set5H
  | 5, .l => .set5L
  | 5, .a => .set5A
  | 6, .b => .set6B
  | 6, .c => .set6C
  | 6, .d => .set6D
  | 6, .e => .set6E
  | 6, .h => .set6H
  | 6, .l => .set6L
  | 6, .a => .set6A
  | 7, .b => .set7B
  | 7, .c => .set7C
  | 7, .d => .set7D
  | 7, .e => .set7E
  | 7, .h => .set7H
  | 7, .l => .set7L
  | 7, .a => .set7A

/-- SET b on a memory byte (R265 to R267). -/
def Instr.setAt : Fin 8 → MemArg → Instr
  | 0, .hl => .set0AtHL
  | 0, .indexed .ix d => .set0AtIXd d
  | 0, .indexed .iy d => .set0AtIYd d
  | 1, .hl => .set1AtHL
  | 1, .indexed .ix d => .set1AtIXd d
  | 1, .indexed .iy d => .set1AtIYd d
  | 2, .hl => .set2AtHL
  | 2, .indexed .ix d => .set2AtIXd d
  | 2, .indexed .iy d => .set2AtIYd d
  | 3, .hl => .set3AtHL
  | 3, .indexed .ix d => .set3AtIXd d
  | 3, .indexed .iy d => .set3AtIYd d
  | 4, .hl => .set4AtHL
  | 4, .indexed .ix d => .set4AtIXd d
  | 4, .indexed .iy d => .set4AtIYd d
  | 5, .hl => .set5AtHL
  | 5, .indexed .ix d => .set5AtIXd d
  | 5, .indexed .iy d => .set5AtIYd d
  | 6, .hl => .set6AtHL
  | 6, .indexed .ix d => .set6AtIXd d
  | 6, .indexed .iy d => .set6AtIYd d
  | 7, .hl => .set7AtHL
  | 7, .indexed .ix d => .set7AtIXd d
  | 7, .indexed .iy d => .set7AtIYd d

/-- RES or SET of a register bit. -/
def Instr.bitReg : BitOp → Fin 8 → Reg8 → Instr
  | .res, b, r => .resReg b r
  | .set, b, r => .setReg b r

/-- RES or SET of a bit of a memory byte. -/
def Instr.bitAt : BitOp → Fin 8 → MemArg → Instr
  | .res, b, m => .resAt b m
  | .set, b, m => .setAt b m

/-- RET f (R143). -/
def Instr.retIf : Cond → Instr
  | .nz => .retNZ
  | .z => .retZ
  | .nc => .retNC
  | .c => .retC
  | .lz => .retLZ
  | .lo => .retLO
  | .p => .retP
  | .m => .retM

/-- RST v (R145). -/
def Instr.rst : Restart → Instr
  | .v10 => .rst10
  | .v18 => .rst18
  | .v20 => .rst20
  | .v28 => .rst28
  | .v38 => .rst38

/-- POP zz (R245). -/
def Instr.popPair : Pair → Instr
  | .bc => .popBC
  | .de => .popDE
  | .hl => .popHL
  | .af => .popAF

/-- PUSH zz (R252). -/
def Instr.pushPair : Pair → Instr
  | .bc => .pushBC
  | .de => .pushDE
  | .hl => .pushHL
  | .af => .pushAF

/-- SBC HL,ss (R195). -/
def Instr.sbcHL : Ss → Instr
  | .bc => .sbcHLBC
  | .de => .sbcHLDE
  | .hl => .sbcHLHL
  | .sp => .sbcHLSP

/-- A block copy, bare or with an I/O prefix (R162 to R166). -/
def Instr.copy : Copy → Option IoSpace → Instr
  | .lsdr, none => .lsdr
  | .lsdr, some .internal => .ioiLsdr
  | .lsdr, some .external => .ioeLsdr
  | .lsir, none => .lsir
  | .lsir, some .internal => .ioiLsir
  | .lsir, some .external => .ioeLsir
  | .lsddr, none => .lsddr
  | .lsddr, some .internal => .ioiLsddr
  | .lsddr, some .external => .ioeLsddr
  | .lsidr, none => .lsidr
  | .lsidr, some .internal => .ioiLsidr
  | .lsidr, some .external => .ioeLsidr

/-! ## The decoder -/

/-- Why bytes are not an instruction. -/
inductive DecodeError where
  /-- The bytes match no row of the table (R108; on a part that is not a 3000A, also a row of level R3000A). -/
  | notInSpec
  /-- The bytes end inside an instruction: as a byte string they match no row either (R108), and more bytes are
  needed to tell (R104). -/
  | truncated
deriving DecidableEq, Repr

/-- An instruction and the bytes after it, or why there is none. -/
abbrev Decoded := Except DecodeError (Instr × List Byte)

/-- An instruction that takes no further byte. -/
def done (i : Option Instr) (rest : List Byte) : Decoded :=
  match i with
  | some i => .ok (i, rest)
  | none => .error .notInSpec

/-- An instruction with one operand byte. -/
def withByte (f : Byte → Instr) : List Byte → Decoded
  | n :: rest => .ok (f n, rest)
  | [] => .error .truncated

/-- An instruction with a 16-bit constant `mn`, low byte first (R69, R97, D6). -/
def withWord (f : Word → Instr) : List Byte → Decoded
  | n :: m :: rest => .ok (f (word m n), rest)
  | _ => .error .truncated

/-- A first byte that is a whole instruction (R98). The rows 10yyyrrr and 11fff000 are read by their fields. -/
def decodeOne (b : Byte) : Option Instr :=
  if fieldX b = 2 then
    match aluOfField (fieldY b), regOfField (fieldZ b) with
    | some op, some r => some (.aluReg op r)
    | some op, none => some (.aluAt op .hl)
    | none, _ => none
  else if fieldX b = 3 ∧ fieldZ b = 0 then some (.retIf (condOfField (fieldY b)))
  else match b.toNat with
  | 0x00 => some .nop
  | 0x07 => some .rlca
  | 0x0F => some .rrca
  | 0x17 => some .rla
  | 0x1F => some .rra
  | 0x37 => some .scf
  | 0xC1 => some .popBC
  | 0xD1 => some .popDE
  | 0xE1 => some .popHL
  | 0xF1 => some .popAF
  | 0xC5 => some .pushBC
  | 0xD5 => some .pushDE
  | 0xE5 => some .pushHL
  | 0xF5 => some .pushAF
  | 0xC9 => some .ret
  | 0xD7 => some .rst10
  | 0xDF => some .rst18
  | 0xE7 => some .rst20
  | 0xEF => some .rst28
  | 0xFF => some .rst38
  | 0xEC => some .orHLDE
  | 0xF3 => some .rlDE
  | 0xF7 => some .mul
  | 0xFB => some .rrDE
  | 0xFC => some .rrHL
  | _ => none

/-- The second byte of the CB page: the operation in bits [7:3], the operand in bits [2:0] (R100). -/
def decodeCB (op : Byte) : Option Instr :=
  match fieldX op with
  | 0 =>
    match rotOfField (fieldY op), regOfField (fieldZ op) with
    | some o, some r => some (.rotReg o r)
    | some o, none => some (.rotAt o .hl)
    | none, _ => none
  | 2 =>
    match regOfField (fieldZ op) with
    | some r => some (.resReg (fieldY op) r)
    | none => some (.resAt (fieldY op) .hl)
  | 3 =>
    match regOfField (fieldZ op) with
    | some r => some (.setReg (fieldY op) r)
    | none => some (.setAt (fieldY op) .hl)
  | _ => none

/-- The fourth byte of DD CB d op and FD CB d op: as on the CB page, with operand field 110 only (R102). -/
def decodeIndexedCB (i : Index) (d op : Byte) : Option Instr :=
  match fieldX op, regOfField (fieldZ op) with
  | 0, none =>
    match rotOfField (fieldY op) with
    | some o => some (.rotAt o (.indexed i d))
    | none => none
  | 2, none => some (.resAt (fieldY op) (.indexed i d))
  | 3, none => some (.setAt (fieldY op) (.indexed i d))
  | _, _ => none

/-- The four block copies by their second byte (R99, R103). -/
def copyOfByte (b : Byte) : Option Copy :=
  match b.toNat with
  | 0xF8 => some .lsdr
  | 0xF0 => some .lsir
  | 0xD8 => some .lsddr
  | 0xD0 => some .lsidr
  | _ => none

/-- The second byte of the ED page (R99). -/
def decodeED (b : Byte) (rest : List Byte) : Decoded :=
  match b.toNat with
  | 0x42 => .ok (.sbcHLBC, rest)
  | 0x52 => .ok (.sbcHLDE, rest)
  | 0x62 => .ok (.sbcHLHL, rest)
  | 0x72 => .ok (.sbcHLSP, rest)
  | 0x44 => .ok (.neg, rest)
  | 0x45 => .ok (.lret, rest)
  | 0x4D => .ok (.reti, rest)
  | 0x64 => .ok (.ldpAtHLHL, rest)
  | 0x66 => .ok (.pushSU, rest)
  | 0x6C => .ok (.ldpHLAtHL, rest)
  | 0x6E => .ok (.popSU, rest)
  | 0x6F => .ok (.setusr, rest)
  | 0x75 => .ok (.syscall, rest)
  | 0x76 => .ok (.pushIP, rest)
  | 0x7D => .ok (.sures, rest)
  | 0x7E => .ok (.popIP, rest)
  | 0x7F => .ok (.rdmode, rest)
  | 0xC0 => .ok (.uma, rest)
  | 0xC8 => .ok (.ums, rest)
  | 0x65 => withWord .ldpAtMnHL rest
  | 0x6D => withWord .ldpHLAtMn rest
  | _ => done ((copyOfByte b).map fun c => .copy c none) rest

/-- The second byte of the DD page (R101). -/
def decodeDD (b : Byte) (rest : List Byte) : Decoded :=
  match b.toNat with
  | 0x64 => .ok (.ldpAtIXHL, rest)
  | 0x65 => withWord .ldpAtMnIX rest
  | 0x6C => .ok (.ldpHLAtIX, rest)
  | 0x6D => withWord .ldpIXAtMn rest
  | 0xE1 => .ok (.popIX, rest)
  | 0xE5 => .ok (.pushIX, rest)
  | 0xEC => .ok (.orIXDE, rest)
  | 0xFC => .ok (.rrIX, rest)
  | _ => .error .notInSpec

/-- The second byte of the FD page: the DD page with IY for IX (R101). -/
def decodeFD (b : Byte) (rest : List Byte) : Decoded :=
  match b.toNat with
  | 0x64 => .ok (.ldpAtIYHL, rest)
  | 0x65 => withWord .ldpAtMnIY rest
  | 0x6C => .ok (.ldpHLAtIY, rest)
  | 0x6D => withWord .ldpIYAtMn rest
  | 0xE1 => .ok (.popIY, rest)
  | 0xE5 => .ok (.pushIY, rest)
  | 0xEC => .ok (.orIYDE, rest)
  | 0xFC => .ok (.rrIY, rest)
  | _ => .error .notInSpec

/-- What the DD and FD pages share: the (I+d) operands and the four-byte CB form (R101, R102). -/
def decodeIndexed (i : Index) (b : Byte) (rest : List Byte) : Decoded :=
  match b.toNat with
  | 0x96 => withByte (fun d => .aluAt .sub (.indexed i d)) rest
  | 0x9E => withByte (fun d => .aluAt .sbc (.indexed i d)) rest
  | 0xAE => withByte (fun d => .aluAt .xor (.indexed i d)) rest
  | 0xB6 => withByte (fun d => .aluAt .or (.indexed i d)) rest
  | 0xCB =>
    match rest with
    | d :: op :: rest => done (decodeIndexedCB i d op) rest
    | _ => .error .truncated
  | _ =>
    match i with
    | .ix => decodeDD b rest
    | .iy => decodeFD b rest

/-- After a prefix IOI or IOE: only the four block copies are admitted (R103, D8, U4). -/
def decodeIo (space : IoSpace) : List Byte → Decoded
  | [] => .error .truncated
  | b :: rest =>
    if b = 0xED#8 then
      match rest with
      | [] => .error .truncated
      | c :: rest => done ((copyOfByte c).map fun k => .copy k (some space)) rest
    else .error .notInSpec

/-- Continue with the second byte of a page. -/
def page (f : Byte → List Byte → Decoded) : List Byte → Decoded
  | b :: rest => f b rest
  | [] => .error .truncated

/-- The instruction of the 3000A that bytes begin with (R98 to R104). The prefix bytes D3 and DB are PRESUMED
(R103, log 11). -/
def decodeAny : List Byte → Decoded
  | [] => .error .truncated
  | b :: rest =>
    match b.toNat with
    | 0xCB => page (fun op rest => done (decodeCB op) rest) rest
    | 0xED => page decodeED rest
    | 0xDD => page (decodeIndexed .ix) rest
    | 0xFD => page (decodeIndexed .iy) rest
    | 0xD3 => decodeIo .internal rest
    | 0xDB => decodeIo .external rest
    | 0xC7 =>
      match rest with
      | n :: m :: x :: rest => .ok (.ljp x (word m n), rest)
      | _ => .error .truncated
    | 0xD6 => withByte (.aluN .sub) rest
    | 0xDE => withByte (.aluN .sbc) rest
    | 0xEE => withByte (.aluN .xor) rest
    | 0xF6 => withByte (.aluN .or) rest
    | _ => done (decodeOne b) rest

/-- The decoder of a part: the rows of level R3000A are refused unless it is a 3000A (R6, R108, D12). -/
def decode (is3000A : Bool) (bs : List Byte) : Decoded :=
  match decodeAny bs with
  | .ok (i, rest) => if i.wellFormed is3000A then .ok (i, rest) else .error .notInSpec
  | .error e => .error e

/-- The length R104 finds from the first bytes, for bytes that are an instruction. -/
def instrLength : List Byte → Nat
  | b :: bs =>
    match b.toNat, bs with
    | 0xD3, _ | 0xDB, _ => 3
    | 0xCB, _ => 2
    | 0xED, c :: _ => if c = 0x65#8 ∨ c = 0x6D#8 then 4 else 2
    | 0xDD, c :: _ | 0xFD, c :: _ =>
      if c = 0xCB#8 ∨ c = 0x65#8 ∨ c = 0x6D#8 then 4
      else if c = 0x96#8 ∨ c = 0x9E#8 ∨ c = 0xAE#8 ∨ c = 0xB6#8 then 3
      else 2
    | 0xC7, _ => 4
    | 0xD6, _ | 0xDE, _ | 0xEE, _ | 0xF6, _ => 2
    | _, _ => 1
  | [] => 0

/-! ## The encoder (the table's rows, bytes in fetch order: R69, R91) -/

/-- The bytes of an instruction, in fetch order. -/
def encode : Instr → List Byte
  | .ldpAtHLHL => [0xED, 0x64]
  | .ldpAtIXHL => [0xDD, 0x64]
  | .ldpAtIYHL => [0xFD, 0x64]
  | .ldpAtMnHL mn => [0xED, 0x65, loByte mn, hiByte mn]
  | .ldpAtMnIX mn => [0xDD, 0x65, loByte mn, hiByte mn]
  | .ldpAtMnIY mn => [0xFD, 0x65, loByte mn, hiByte mn]
  | .ldpHLAtHL => [0xED, 0x6C]
  | .ldpHLAtIX => [0xDD, 0x6C]
  | .ldpHLAtIY => [0xFD, 0x6C]
  | .ldpHLAtMn mn => [0xED, 0x6D, loByte mn, hiByte mn]
  | .ldpIXAtMn mn => [0xDD, 0x6D, loByte mn, hiByte mn]
  | .ldpIYAtMn mn => [0xFD, 0x6D, loByte mn, hiByte mn]
  | .ljp x mn => [0xC7, loByte mn, hiByte mn, x]
  | .lret => [0xED, 0x45]
  | .ret => [0xC9]
  | .retNZ => [0xC0]
  | .retZ => [0xC8]
  | .retNC => [0xD0]
  | .retC => [0xD8]
  | .retLZ => [0xE0]
  | .retLO => [0xE8]
  | .retP => [0xF0]
  | .retM => [0xF8]
  | .reti => [0xED, 0x4D]
  | .rst10 => [0xD7]
  | .rst18 => [0xDF]
  | .rst20 => [0xE7]
  | .rst28 => [0xEF]
  | .rst38 => [0xFF]
  | .syscall => [0xED, 0x75]
  | .lsdr => [0xED, 0xF8]
  | .ioiLsdr => [0xD3, 0xED, 0xF8]
  | .ioeLsdr => [0xDB, 0xED, 0xF8]
  | .lsir => [0xED, 0xF0]
  | .ioiLsir => [0xD3, 0xED, 0xF0]
  | .ioeLsir => [0xDB, 0xED, 0xF0]
  | .lsddr => [0xED, 0xD8]
  | .ioiLsddr => [0xD3, 0xED, 0xD8]
  | .ioeLsddr => [0xDB, 0xED, 0xD8]
  | .lsidr => [0xED, 0xD0]
  | .ioiLsidr => [0xD3, 0xED, 0xD0]
  | .ioeLsidr => [0xDB, 0xED, 0xD0]
  | .uma => [0xED, 0xC0]
  | .ums => [0xED, 0xC8]
  | .mul => [0xF7]
  | .neg => [0xED, 0x44]
  | .subAtHL => [0x96]
  | .subAtIXd d => [0xDD, 0x96, d]
  | .subAtIYd d => [0xFD, 0x96, d]
  | .subN n => [0xD6, n]
  | .subB => [0x90]
  | .subC => [0x91]
  | .subD => [0x92]
  | .subE => [0x93]
  | .subH => [0x94]
  | .subL => [0x95]
  | .subA => [0x97]
  | .sbcAAtHL => [0x9E]
  | .sbcAtIXd d => [0xDD, 0x9E, d]
  | .sbcAtIYd d => [0xFD, 0x9E, d]
  | .sbcAN n => [0xDE, n]
  | .sbcAB => [0x98]
  | .sbcAC => [0x99]
  | .sbcAD => [0x9A]
  | .sbcAE => [0x9B]
  | .sbcAH => [0x9C]
  | .sbcAL => [0x9D]
  | .sbcAA => [0x9F]
  | .sbcHLBC => [0xED, 0x42]
  | .sbcHLDE => [0xED, 0x52]
  | .sbcHLHL => [0xED, 0x62]
  | .sbcHLSP => [0xED, 0x72]
  | .nop => [0x00]
  | .orAtHL => [0xB6]
  | .orAtIXd d => [0xDD, 0xB6, d]
  | .orAtIYd d => [0xFD, 0xB6, d]
  | .orHLDE => [0xEC]
  | .orIXDE => [0xDD, 0xEC]
  | .orIYDE => [0xFD, 0xEC]
  | .orN n => [0xF6, n]
  | .orB => [0xB0]
  | .orC => [0xB1]
  | .orD => [0xB2]
  | .orE => [0xB3]
  | .orH => [0xB4]
  | .orL => [0xB5]
  | .orA => [0xB7]
  | .xorAtHL => [0xAE]
  | .xorAtIXd d => [0xDD, 0xAE, d]
  | .xorAtIYd d => [0xFD, 0xAE, d]
  | .xorN n => [0xEE, n]
  | .xorB => [0xA8]
  | .xorC => [0xA9]
  | .xorD => [0xAA]
  | .xorE => [0xAB]
  | .xorH => [0xAC]
  | .xorL => [0xAD]
  | .xorA => [0xAF]
  | .scf => [0x37]
  | .popIP => [0xED, 0x7E]
  | .popIX => [0xDD, 0xE1]
  | .popIY => [0xFD, 0xE1]
  | .popSU => [0xED, 0x6E]
  | .popAF => [0xF1]
  | .popBC => [0xC1]
  | .popDE => [0xD1]
  | .popHL => [0xE1]
  | .pushIP => [0xED, 0x76]
  | .pushIX => [0xDD, 0xE5]
  | .pushIY => [0xFD, 0xE5]
  | .pushAF => [0xF5]
  | .pushBC => [0xC5]
  | .pushDE => [0xD5]
  | .pushHL => [0xE5]
  | .pushSU => [0xED, 0x66]
  | .res0AtHL => [0xCB, 0x86]
  | .res1AtHL => [0xCB, 0x8E]
  | .res2AtHL => [0xCB, 0x96]
  | .res3AtHL => [0xCB, 0x9E]
  | .res4AtHL => [0xCB, 0xA6]
  | .res5AtHL => [0xCB, 0xAE]
  | .res6AtHL => [0xCB, 0xB6]
  | .res7AtHL => [0xCB, 0xBE]
  | .res0AtIXd d => [0xDD, 0xCB, d, 0x86]
  | .res1AtIXd d => [0xDD, 0xCB, d, 0x8E]
  | .res2AtIXd d => [0xDD, 0xCB, d, 0x96]
  | .res3AtIXd d => [0xDD, 0xCB, d, 0x9E]
  | .res4AtIXd d => [0xDD, 0xCB, d, 0xA6]
  | .res5AtIXd d => [0xDD, 0xCB, d, 0xAE]
  | .res6AtIXd d => [0xDD, 0xCB, d, 0xB6]
  | .res7AtIXd d => [0xDD, 0xCB, d, 0xBE]
  | .res0AtIYd d => [0xFD, 0xCB, d, 0x86]
  | .res1AtIYd d => [0xFD, 0xCB, d, 0x8E]
  | .res2AtIYd d => [0xFD, 0xCB, d, 0x96]
  | .res3AtIYd d => [0xFD, 0xCB, d, 0x9E]
  | .res4AtIYd d => [0xFD, 0xCB, d, 0xA6]
  | .res5AtIYd d => [0xFD, 0xCB, d, 0xAE]
  | .res6AtIYd d => [0xFD, 0xCB, d, 0xB6]
  | .res7AtIYd d => [0xFD, 0xCB, d, 0xBE]
  | .res0B => [0xCB, 0x80]
  | .res0C => [0xCB, 0x81]
  | .res0D => [0xCB, 0x82]
  | .res0E => [0xCB, 0x83]
  | .res0H => [0xCB, 0x84]
  | .res0L => [0xCB, 0x85]
  | .res0A => [0xCB, 0x87]
  | .res1B => [0xCB, 0x88]
  | .res1C => [0xCB, 0x89]
  | .res1D => [0xCB, 0x8A]
  | .res1E => [0xCB, 0x8B]
  | .res1H => [0xCB, 0x8C]
  | .res1L => [0xCB, 0x8D]
  | .res1A => [0xCB, 0x8F]
  | .res2B => [0xCB, 0x90]
  | .res2C => [0xCB, 0x91]
  | .res2D => [0xCB, 0x92]
  | .res2E => [0xCB, 0x93]
  | .res2H => [0xCB, 0x94]
  | .res2L => [0xCB, 0x95]
  | .res2A => [0xCB, 0x97]
  | .res3B => [0xCB, 0x98]
  | .res3C => [0xCB, 0x99]
  | .res3D => [0xCB, 0x9A]
  | .res3E => [0xCB, 0x9B]
  | .res3H => [0xCB, 0x9C]
  | .res3L => [0xCB, 0x9D]
  | .res3A => [0xCB, 0x9F]
  | .res4B => [0xCB, 0xA0]
  | .res4C => [0xCB, 0xA1]
  | .res4D => [0xCB, 0xA2]
  | .res4E => [0xCB, 0xA3]
  | .res4H => [0xCB, 0xA4]
  | .res4L => [0xCB, 0xA5]
  | .res4A => [0xCB, 0xA7]
  | .res5B => [0xCB, 0xA8]
  | .res5C => [0xCB, 0xA9]
  | .res5D => [0xCB, 0xAA]
  | .res5E => [0xCB, 0xAB]
  | .res5H => [0xCB, 0xAC]
  | .res5L => [0xCB, 0xAD]
  | .res5A => [0xCB, 0xAF]
  | .res6B => [0xCB, 0xB0]
  | .res6C => [0xCB, 0xB1]
  | .res6D => [0xCB, 0xB2]
  | .res6E => [0xCB, 0xB3]
  | .res6H => [0xCB, 0xB4]
  | .res6L => [0xCB, 0xB5]
  | .res6A => [0xCB, 0xB7]
  | .res7B => [0xCB, 0xB8]
  | .res7C => [0xCB, 0xB9]
  | .res7D => [0xCB, 0xBA]
  | .res7E => [0xCB, 0xBB]
  | .res7H => [0xCB, 0xBC]
  | .res7L => [0xCB, 0xBD]
  | .res7A => [0xCB, 0xBF]
  | .set0AtHL => [0xCB, 0xC6]
  | .set1AtHL => [0xCB, 0xCE]
  | .set2AtHL => [0xCB, 0xD6]
  | .set3AtHL => [0xCB, 0xDE]
  | .set4AtHL => [0xCB, 0xE6]
  | .set5AtHL => [0xCB, 0xEE]
  | .set6AtHL => [0xCB, 0xF6]
  | .set7AtHL => [0xCB, 0xFE]
  | .set0AtIXd d => [0xDD, 0xCB, d, 0xC6]
  | .set1AtIXd d => [0xDD, 0xCB, d, 0xCE]
  | .set2AtIXd d => [0xDD, 0xCB, d, 0xD6]
  | .set3AtIXd d => [0xDD, 0xCB, d, 0xDE]
  | .set4AtIXd d => [0xDD, 0xCB, d, 0xE6]
  | .set5AtIXd d => [0xDD, 0xCB, d, 0xEE]
  | .set6AtIXd d => [0xDD, 0xCB, d, 0xF6]
  | .set7AtIXd d => [0xDD, 0xCB, d, 0xFE]
  | .set0AtIYd d => [0xFD, 0xCB, d, 0xC6]
  | .set1AtIYd d => [0xFD, 0xCB, d, 0xCE]
  | .set2AtIYd d => [0xFD, 0xCB, d, 0xD6]
  | .set3AtIYd d => [0xFD, 0xCB, d, 0xDE]
  | .set4AtIYd d => [0xFD, 0xCB, d, 0xE6]
  | .set5AtIYd d => [0xFD, 0xCB, d, 0xEE]
  | .set6AtIYd d => [0xFD, 0xCB, d, 0xF6]
  | .set7AtIYd d => [0xFD, 0xCB, d, 0xFE]
  | .set0B => [0xCB, 0xC0]
  | .set0C => [0xCB, 0xC1]
  | .set0D => [0xCB, 0xC2]
  | .set0E => [0xCB, 0xC3]
  | .set0H => [0xCB, 0xC4]
  | .set0L => [0xCB, 0xC5]
  | .set0A => [0xCB, 0xC7]
  | .set1B => [0xCB, 0xC8]
  | .set1C => [0xCB, 0xC9]
  | .set1D => [0xCB, 0xCA]
  | .set1E => [0xCB, 0xCB]
  | .set1H => [0xCB, 0xCC]
  | .set1L => [0xCB, 0xCD]
  | .set1A => [0xCB, 0xCF]
  | .set2B => [0xCB, 0xD0]
  | .set2C => [0xCB, 0xD1]
  | .set2D => [0xCB, 0xD2]
  | .set2E => [0xCB, 0xD3]
  | .set2H => [0xCB, 0xD4]
  | .set2L => [0xCB, 0xD5]
  | .set2A => [0xCB, 0xD7]
  | .set3B => [0xCB, 0xD8]
  | .set3C => [0xCB, 0xD9]
  | .set3D => [0xCB, 0xDA]
  | .set3E => [0xCB, 0xDB]
  | .set3H => [0xCB, 0xDC]
  | .set3L => [0xCB, 0xDD]
  | .set3A => [0xCB, 0xDF]
  | .set4B => [0xCB, 0xE0]
  | .set4C => [0xCB, 0xE1]
  | .set4D => [0xCB, 0xE2]
  | .set4E => [0xCB, 0xE3]
  | .set4H => [0xCB, 0xE4]
  | .set4L => [0xCB, 0xE5]
  | .set4A => [0xCB, 0xE7]
  | .set5B => [0xCB, 0xE8]
  | .set5C => [0xCB, 0xE9]
  | .set5D => [0xCB, 0xEA]
  | .set5E => [0xCB, 0xEB]
  | .set5H => [0xCB, 0xEC]
  | .set5L => [0xCB, 0xED]
  | .set5A => [0xCB, 0xEF]
  | .set6B => [0xCB, 0xF0]
  | .set6C => [0xCB, 0xF1]
  | .set6D => [0xCB, 0xF2]
  | .set6E => [0xCB, 0xF3]
  | .set6H => [0xCB, 0xF4]
  | .set6L => [0xCB, 0xF5]
  | .set6A => [0xCB, 0xF7]
  | .set7B => [0xCB, 0xF8]
  | .set7C => [0xCB, 0xF9]
  | .set7D => [0xCB, 0xFA]
  | .set7E => [0xCB, 0xFB]
  | .set7H => [0xCB, 0xFC]
  | .set7L => [0xCB, 0xFD]
  | .set7A => [0xCB, 0xFF]
  | .rlAtHL => [0xCB, 0x16]
  | .rlAtIXd d => [0xDD, 0xCB, d, 0x16]
  | .rlAtIYd d => [0xFD, 0xCB, d, 0x16]
  | .rlB => [0xCB, 0x10]
  | .rlC => [0xCB, 0x11]
  | .rlD => [0xCB, 0x12]
  | .rlE => [0xCB, 0x13]
  | .rlH => [0xCB, 0x14]
  | .rlL => [0xCB, 0x15]
  | .rlA => [0xCB, 0x17]
  | .rlDE => [0xF3]
  | .rla => [0x17]
  | .rlcAtHL => [0xCB, 0x06]
  | .rlcAtIXd d => [0xDD, 0xCB, d, 0x06]
  | .rlcAtIYd d => [0xFD, 0xCB, d, 0x06]
  | .rlcB => [0xCB, 0x00]
  | .rlcC => [0xCB, 0x01]
  | .rlcD => [0xCB, 0x02]
  | .rlcE => [0xCB, 0x03]
  | .rlcH => [0xCB, 0x04]
  | .rlcL => [0xCB, 0x05]
  | .rlcA => [0xCB, 0x07]
  | .rlca => [0x07]
  | .rrAtHL => [0xCB, 0x1E]
  | .rrAtIXd d => [0xDD, 0xCB, d, 0x1E]
  | .rrAtIYd d => [0xFD, 0xCB, d, 0x1E]
  | .rrB => [0xCB, 0x18]
  | .rrC => [0xCB, 0x19]
  | .rrD => [0xCB, 0x1A]
  | .rrE => [0xCB, 0x1B]
  | .rrH => [0xCB, 0x1C]
  | .rrL => [0xCB, 0x1D]
  | .rrA => [0xCB, 0x1F]
  | .rrDE => [0xFB]
  | .rrHL => [0xFC]
  | .rrIX => [0xDD, 0xFC]
  | .rrIY => [0xFD, 0xFC]
  | .rra => [0x1F]
  | .rrcAtHL => [0xCB, 0x0E]
  | .rrcAtIXd d => [0xDD, 0xCB, d, 0x0E]
  | .rrcAtIYd d => [0xFD, 0xCB, d, 0x0E]
  | .rrcB => [0xCB, 0x08]
  | .rrcC => [0xCB, 0x09]
  | .rrcD => [0xCB, 0x0A]
  | .rrcE => [0xCB, 0x0B]
  | .rrcH => [0xCB, 0x0C]
  | .rrcL => [0xCB, 0x0D]
  | .rrcA => [0xCB, 0x0F]
  | .rrca => [0x0F]
  | .slaAtHL => [0xCB, 0x26]
  | .slaAtIXd d => [0xDD, 0xCB, d, 0x26]
  | .slaAtIYd d => [0xFD, 0xCB, d, 0x26]
  | .slaB => [0xCB, 0x20]
  | .slaC => [0xCB, 0x21]
  | .slaD => [0xCB, 0x22]
  | .slaE => [0xCB, 0x23]
  | .slaH => [0xCB, 0x24]
  | .slaL => [0xCB, 0x25]
  | .slaA => [0xCB, 0x27]
  | .sraAtHL => [0xCB, 0x2E]
  | .sraAtIXd d => [0xDD, 0xCB, d, 0x2E]
  | .sraAtIYd d => [0xFD, 0xCB, d, 0x2E]
  | .sraB => [0xCB, 0x28]
  | .sraC => [0xCB, 0x29]
  | .sraD => [0xCB, 0x2A]
  | .sraE => [0xCB, 0x2B]
  | .sraH => [0xCB, 0x2C]
  | .sraL => [0xCB, 0x2D]
  | .sraA => [0xCB, 0x2F]
  | .srlAtHL => [0xCB, 0x3E]
  | .srlAtIXd d => [0xDD, 0xCB, d, 0x3E]
  | .srlAtIYd d => [0xFD, 0xCB, d, 0x3E]
  | .srlB => [0xCB, 0x38]
  | .srlC => [0xCB, 0x39]
  | .srlD => [0xCB, 0x3A]
  | .srlE => [0xCB, 0x3B]
  | .srlH => [0xCB, 0x3C]
  | .srlL => [0xCB, 0x3D]
  | .srlA => [0xCB, 0x3F]
  | .rdmode => [0xED, 0x7F]
  | .setusr => [0xED, 0x6F]
  | .sures => [0xED, 0x7D]

/-! ## The table's words -/

/-- The longest instruction, in bytes (R90). -/
def maxLength : Nat := 4

/-- The `n` low bytes of a number, the most significant first: the table writes a row as one number whose most
significant byte is fetched first. -/
def bytesHighFirst : Nat → Nat → List Byte
  | 0, _ => []
  | n + 1, w => BitVec.ofNat 8 (w >>> (8 * n)) :: bytesHighFirst n w

/-- The `n` low bytes of a number, the least significant first. -/
def bytesLowFirst : Nat → Nat → List Byte
  | 0, _ => []
  | n + 1, w => BitVec.ofNat 8 w :: bytesLowFirst n (w >>> 8)

/-- Bytes filled up with zeros to the longest instruction. -/
def padded (bs : List Byte) : List Byte := (bs ++ [0, 0, 0, 0]).take maxLength

/-- The bytes begin with an instruction that takes up at least the first `n` of them. -/
def fills (n : Nat) (bs : List Byte) : Bool :=
  match decode true bs with
  | .ok (_, rest) => decide (rest.length + n ≤ bs.length)
  | .error _ => false

/-- The bytes of a table word in fetch order, zeros after them. The table numbers bit 0 from the LAST byte of a row
(its "match" read as one number), so the first byte is the most significant; a word that is no row so read, but is
one with bit 0 in the first byte, is read that way (DESIGN CHOICE, log 30). -/
def tableBytes (nbits w : Nat) : List Byte :=
  let n := nbits / 8
  let high := padded (bytesHighFirst n w)
  let low := padded (bytesLowFirst n w)
  if fills n high then high else if fills n low then low else high

/-- The instruction the decoder reads from a table word. -/
def decodeTableWord (nbits w : Nat) : Option Instr :=
  match decode true (tableBytes nbits w) with
  | .ok (i, _) => some i
  | .error _ => none

end Sys2Proof
end

