-- ==== Sys2Proof/Machine/State.lean ====
section
/-! DEFINITION. The state of the machine (10_state.md, 20_memory.md), its stops, and the state after reset. -/

namespace Sys2Proof.Machine

/-- Where an interrupt enters (60_exceptions.md R324, R325): an offset into the table at IIR (an internal source), an
offset into the table at EIR (an external one), or a logical address. -/
inductive IrqTarget where
  | internal (offset : Byte)
  | external (offset : Byte)
  | address (a : Word)
deriving DecidableEq, Repr

/-- An interrupt event of the environment, `irq(p, target)` (R324). -/
structure Irq where
  priority : BitVec 2
  target : IrqTarget
deriving DecidableEq, Repr

/-- Memory: the bytes that have a value, at their physical addresses, addresses strictly rising. An unlisted address
has no value (U10; log 5). -/
abbrev Memory := List Host.Cell

/-- The state of the machine. Flags live in `f` (R28); BC, DE, HL and AF are views of their halves (R21). -/
structure State where
  /-- A, the accumulator (R20). -/
  a : Byte
  /-- F, the flags byte (R28). -/
  f : Byte
  b : Byte
  c : Byte
  d : Byte
  e : Byte
  h : Byte
  l : Byte
  /-- DE', the alternate pair (R26). -/
  deAlt : Word
  ix : Word
  iy : Word
  sp : Word
  /-- PC: the address of the first byte of the instruction about to run (R24). -/
  pc : Word
  /-- XPC, the memory window register (R30). -/
  xpc : Byte
  /-- IP, the interrupt priority register (R31). -/
  ip : Byte
  /-- SU, the system/user mode register (R32). -/
  su : Byte
  /-- IIR, the base of the interrupt table (R35). -/
  iir : Byte
  /-- EIR, the base of the external interrupts' table (R35, R325). -/
  eir : Byte
  /-- The interrupt hold-off after a privileged instruction (R37). -/
  inhibit : Bool
  /-- SEGSIZE, STACKSEG and DATASEG (R66). -/
  segsize : Byte
  stackseg : Byte
  dataseg : Byte
  /-- Physical memory (R60). -/
  mem : Memory
  /-- The parameters of the machine (log 1). -/
  config : Config
  /-- The environment: what it offers at each coming instruction boundary (R324; log 18). -/
  irqs : List (Option Irq)
  /-- The environment: its answers to the coming I/O reads (R9; log 10). -/
  ioAnswers : List Byte
  /-- The model's own: how many I/O reads were answered by a free value (log 10). -/
  ioReads : Nat
  /-- The model's own: how many draws were made (R17; log 9). -/
  draws : Nat
deriving DecidableEq, Repr

/-- Why the model stops with a fault. -/
inductive Fault where
  /-- A read or a fetch of a byte of memory that nothing has written (R50, U10). Safe: the hardware reads some byte
  and goes on (log 5). -/
  | unwrittenMemory (p : Addr20)
deriving DecidableEq, Repr

/-- What the model gives no meaning. -/
inductive Refusal where
  /-- An arm of exec without a meaning; raised by no meaning. Safe. -/
  | notModelled (mnemonic : String)
  /-- Bytes that are no instruction of this part (R108, U3, U4; log 15). Raised by the step. Safe. -/
  | notInSpec
  /-- LJP to a target below E000H, unless the configuration performs it (R140, U1; log 23). Safe. -/
  | ljpTargetOutsideWindow
  /-- A privileged instruction in user mode on a 3000A (R331, U6; log 17). Safe. -/
  | privilegedInUserMode
deriving DecidableEq, Repr

/-- What an instruction, or a step, answers. -/
abbrev Out := Host.Outcome State Fault Refusal

/-- The machine right after reset (R350, R351). The spec's source states no value. PRESUMED, the family's (log 3):
pc, xpc, ip, su, iir, eir, inhibit, segsize, stackseg, dataseg. DESIGN CHOICE, zero (log 4): the registers R350
leaves unspecified. The parameters are the spec's defaults, a 3000A, SU unchanged on a trap (log 1). -/
def State.reset : State where
  a := 0
  f := 0
  b := 0
  c := 0
  d := 0
  e := 0
  h := 0
  l := 0
  deAlt := 0
  ix := 0
  iy := 0
  sp := 0
  pc := 0x0000
  xpc := 0x00
  ip := 0xFF
  su := 0x00
  iir := 0x00
  eir := 0x00
  inhibit := false
  segsize := 0xFF
  stackseg := 0x00
  dataseg := 0x00
  mem := []
  config := ⟨true, .unchanged, true, false, .literal, .segments, 0⟩
  irqs := []
  ioAnswers := []
  ioReads := 0
  draws := 0

end Sys2Proof.Machine
end

