-- ==== Sys2Proof/Machine/Flags.lean ====
section
/-! DEFINITION. The four flags and every flag computation of 10_state.md R33 and R34. An instruction names what it
writes to each flag as a `FlagWrite`; `State.putFlags` performs it, under the parameter FLAG_TABLE_TRUSTED (R10). -/

namespace Sys2Proof.Machine

/-! ## The flags in F (R28, D2: positions PRESUMED, log 6) -/

/-- S, the sign flag. -/
def flagS (f : Byte) : Bool := f.getLsbD 7

/-- Z, the zero flag. -/
def flagZ (f : Byte) : Bool := f.getLsbD 6

/-- L/V, the logical / overflow flag. -/
def flagLV (f : Byte) : Bool := f.getLsbD 2

/-- C, the carry flag. -/
def flagC (f : Byte) : Bool := f.getLsbD 0

/-- A flags byte with four new flags; the bits that hold no flag are those of `f`. -/
def packFlags (f : Byte) (s z lv c : Bool) : Byte :=
  BitVec.ofBool s ++ BitVec.ofBool z ++ f.extractLsb' 3 3 ++ BitVec.ofBool lv ++ f.extractLsb' 1 1 ++ BitVec.ofBool c

/-- A byte whose four flags are those of `f` and whose other bits, F[5], F[4], F[3] and F[1], are those of `u` (U8). -/
def mixFlags (f u : Byte) : Byte :=
  packFlags u (flagS f) (flagZ f) (flagLV f) (flagC f)

/-! ## What an instruction writes to a flag (the column "by" of R33) -/

/-- The effect on one flag. -/
inductive FlagWrite where
  /-- The source states the value, or a decision of the spec does. -/
  | stated (v : Bool)
  /-- The value is general knowledge: free when the flag table is not trusted (R10, U9). -/
  | believed (v : Bool)
  /-- Not written, which is general knowledge too: free when the flag table is not trusted (U9). -/
  | kept
deriving DecidableEq, Repr

/-- The flag after the write: `old` before it, `drawn` the free value. -/
def FlagWrite.value (trusted old drawn : Bool) : FlagWrite → Bool
  | .stated v => v
  | .believed v => if trusted then v else drawn
  | .kept => if trusted then old else drawn

/-- The effects on the four flags. -/
structure FlagWrites where
  s : FlagWrite
  z : FlagWrite
  lv : FlagWrite
  c : FlagWrite
deriving DecidableEq, Repr

/-- The flags byte after the writes; `drawn` supplies the free values. -/
def FlagWrites.apply (w : FlagWrites) (trusted : Bool) (f drawn : Byte) : Byte :=
  packFlags f (w.s.value trusted (flagS f) (flagS drawn)) (w.z.value trusted (flagZ f) (flagZ drawn))
    (w.lv.value trusted (flagLV f) (flagLV drawn)) (w.c.value trusted (flagC f) (flagC drawn))

/-- Perform the flag effects of an instruction. One draw is made when the flag table is not trusted. -/
def State.putFlags (w : FlagWrites) (s : State) : State :=
  if s.config.flagTableTrusted then { s with f := w.apply true s.f 0 }
  else { s with f := w.apply false s.f (Config.draw s.draws), draws := s.draws + 1 }

/-! ## The rows of R33 -/

/-- No flag is written (the first row of R33). -/
def noFlags : FlagWrites := ⟨.kept, .kept, .kept, .kept⟩

/-- Only C is written, as the source states. -/
def carryOnly (c : Bool) : FlagWrites := ⟨.kept, .kept, .kept, .stated c⟩

/-- Only L/V is written (the block copies, R161). -/
def overflowOnly (v : Bool) : FlagWrites := ⟨.kept, .kept, .stated v, .kept⟩

/-- `Lg(res)`: any of the four most significant bits is 1 (R33). -/
def logicBit {w : Nat} (res : BitVec w) : Bool := res.extractLsb' (w - 4) 4 != 0

/-- OR and XOR, 8 or 16 bits (R211, R215). -/
def logicFlags {w : Nat} (res : BitVec w) : FlagWrites :=
  ⟨.believed res.msb, .believed (res == 0), .believed (logicBit res), .believed false⟩

/-- The rotates and shifts but for the four accumulator forms (R271). -/
def shiftFlags {w : Nat} (res : BitVec w) (carry : Bool) : FlagWrites :=
  ⟨.believed res.msb, .believed (res == 0), .believed (logicBit res), .stated carry⟩

/-- `(x - y - cin) mod 2^W` (R34). -/
def difference {w : Nat} (x y : BitVec w) (cin : Bool) : BitVec w := x - y - BitVec.ofNat w cin.toNat

/-- The borrow of a subtraction: unsigned `x < y + cin` (R34). -/
def borrow {w : Nat} (x y : BitVec w) (cin : Bool) : Bool := decide (x.toNat < y.toNat + cin.toNat)

/-- The signed overflow of a subtraction (R34). -/
def subOverflow {w : Nat} (x y : BitVec w) (cin : Bool) : Bool :=
  let r : Int := x.toInt - y.toInt - cin.toNat
  decide (r < -2 ^ (w - 1) ∨ 2 ^ (w - 1) - 1 < r)

/-- SUB and NEG: all four flags are general knowledge (R33, R183). -/
def subFlags {w : Nat} (x y : BitVec w) : FlagWrites :=
  let res := difference x y false
  ⟨.believed res.msb, .believed (res == 0), .believed (subOverflow x y false), .believed (borrow x y false)⟩

/-- SBC, 8 or 16 bits: C is the source's (R33, R189, R195; C5: the subject of the 16-bit carry is HL, log 27). -/
def sbcFlags {w : Nat} (x y : BitVec w) (cin : Bool) : FlagWrites :=
  let res := difference x y cin
  ⟨.believed res.msb, .believed (res == 0), .believed (subOverflow x y cin), .stated (borrow x y cin)⟩

end Sys2Proof.Machine
end

