-- ==== Sys2Proof/Machine/Ops.lean ====
section
/-! DEFINITION. The operations the meanings share: register pairs, address translation, memory, I/O, the stack,
moving past an instruction, the privilege check, entering a trap or an interrupt and returning from one, and fetching
an instruction's bytes. -/

namespace Sys2Proof.Machine

/-! ## Register pairs (R21) -/

/-- BC. -/
def State.bc (s : State) : Word := word s.b s.c

/-- DE. -/
def State.de (s : State) : Word := word s.d s.e

/-- HL. -/
def State.hl (s : State) : Word := word s.h s.l

/-- Write BC. -/
def State.setBC (s : State) (v : Word) : State := { s with b := hiByte v, c := loByte v }

/-- Write DE. -/
def State.setDE (s : State) (v : Word) : State := { s with d := hiByte v, e := loByte v }

/-- Write HL. -/
def State.setHL (s : State) (v : Word) : State := { s with h := hiByte v, l := loByte v }

/-! ## Memory: one byte at a physical address -/

/-- The value of a byte, none if nothing has written it (U10). -/
def Memory.read : Memory → Addr20 → Option Byte
  | [], _ => none
  | (q, v) :: m, p => if q = p.toNat then some v else Memory.read m p

/-- Write a byte, keeping the addresses rising. -/
def Memory.write : Memory → Addr20 → Byte → Memory
  | [], p, v => [(p.toNat, v)]
  | (q, w) :: m, p, v =>
    if p.toNat < q then (p.toNat, v) :: (q, w) :: m
    else if p.toNat = q then (q, v) :: m
    else (q, w) :: Memory.write m p v

/-- Addresses rise strictly from `low` on and lie in the 20-bit space. -/
def Memory.risingFrom : Nat → Memory → Bool
  | _, [] => true
  | low, (q, _) :: m => decide (low ≤ q) && decide (q < 2 ^ 20) && Memory.risingFrom (q + 1) m

/-- The canonical form: addresses strictly rising, inside the physical space. (An unlisted address has no value, so
no entry equals what one reads as.) -/
def Memory.wf (m : Memory) : Bool := Memory.risingFrom 0 m

/-- PhysWrite (R15). -/
def State.writePhys (s : State) (p : Addr20) (v : Byte) : State := { s with mem := s.mem.write p v }

/-- PhysRead (R15): go on with the byte, or fault if it has no value. -/
def State.loadPhys (s : State) (p : Addr20) (k : Byte → Out) : Out :=
  match s.mem.read p with
  | some v => k v
  | none => .fault (.unwrittenMemory p)

/-! ## Translation (R66) and logical accesses -/

/-- The segment register that translates a logical address, by its bits 15:12 (R66): XPC from E000H on, below that
STACKSEG from SEGSIZE[7:4], below that DATASEG from SEGSIZE[3:0], below that none (the root segment). -/
def State.segment (s : State) (a : Word) : Byte :=
  let top := a.extractLsb' 12 4
  if 0xE#4 ≤ top then s.xpc
  else if s.segsize.extractLsb' 4 4 ≤ top then s.stackseg
  else if s.segsize.extractLsb' 0 4 ≤ top then s.dataseg
  else 0

/-- Translate (R8, R66): the physical address of a logical one. PRESUMED for the segment registers (log 2). -/
def State.translate (s : State) (a : Word) : Addr20 :=
  match s.config.translation with
  | .segments => a.setWidth 20 + ((s.segment a).setWidth 20 <<< 12)
  | .free k => Config.freeTranslate k s.xpc a

/-- The byte at a logical address, none if it has no value. -/
def State.readByte (s : State) (a : Word) : Option Byte := s.mem.read (s.translate a)

/-- MemRead(a, 1) (R15). -/
def State.load (s : State) (a : Word) (k : Byte → Out) : Out := s.loadPhys (s.translate a) k

/-- MemRead(a, 2) (R15): the byte at `a`, then the byte at `a + 1`, low byte first (R68). -/
def State.loadWord (s : State) (a : Word) (k : Word → Out) : Out :=
  s.load a fun lo => s.load (a + 1) fun hi => k (word hi lo)

/-- MemWrite(a, 1, v) (R15). -/
def State.store (s : State) (a : Word) (v : Byte) : State := s.writePhys (s.translate a) v

/-! ## LDP's physical pair (R65, R120) -/

/-- `{A[3:0], a}`: A[7:4], XPC and the translation take no part (R65, D32). -/
def State.ldpAddr (s : State) (a : Word) : Addr20 := s.a.extractLsb' 0 4 ++ a

/-- Read two bytes, low byte first, the second at `{A[3:0], a + 1}` with no carry into the page (R65). -/
def State.loadLdp (s : State) (a : Word) (k : Word → Out) : Out :=
  s.loadPhys (s.ldpAddr a) fun lo => s.loadPhys (s.ldpAddr (a + 1)) fun hi => k (word hi lo)

/-- Write a word, low byte first, the second byte at `{A[3:0], a + 1}` (R65). -/
def State.storeLdp (s : State) (a v : Word) : State :=
  (s.writePhys (s.ldpAddr a) (loByte v)).writePhys (s.ldpAddr (a + 1)) (hiByte v)

/-! ## Free values and I/O -/

/-- IoRead(space, a) (R9): the environment's next answer, or a free value when its list is empty (log 10). -/
def State.ioRead (s : State) (space : IoSpace) (a : Word) : Byte × State :=
  match s.ioAnswers with
  | v :: rest => (v, { s with ioAnswers := rest })
  | [] => (Config.ioByte s.ioReads space a, { s with ioReads := s.ioReads + 1 })

/-! ## The stack (R23, R240): logical addresses, modulo 2^16 (log 13) -/

/-- Push a byte. -/
def State.pushByte (s : State) (v : Byte) : State :=
  { s.store (s.sp - 1) v with sp := s.sp - 1 }

/-- Push a word: the high byte at SP - 1 first, then the low byte at SP - 2. -/
def State.pushWord (s : State) (v : Word) : State :=
  { (s.store (s.sp - 1) (hiByte v)).store (s.sp - 2) (loByte v) with sp := s.sp - 2 }

/-- Pop a byte. -/
def State.popByte (s : State) (k : Byte → State → Out) : Out :=
  s.load s.sp fun v => k v { s with sp := s.sp + 1 }

/-- Pop a word: the low byte at SP, then the high byte at SP + 1. -/
def State.popWord (s : State) (k : Word → State → Out) : Out :=
  s.loadWord s.sp fun v => k v { s with sp := s.sp + 2 }

/-! ## The program counter (R24, R25) -/

/-- `next`: the address after an instruction of `len` bytes, modulo 2^16 (D3; log 12). -/
def State.nextPc (s : State) (len : Word) : Word := s.pc + len

/-- End an instruction of `len` bytes: pc goes to `next`. -/
def State.advance (len : Word) (s : State) : State := { s with pc := s.nextPc len }

/-- End an iteration of a repeating instruction: pc stays while BC is not zero (R160). -/
def State.repeatOrAdvance (len : Word) (s : State) : State := if s.bc = 0 then s.advance len else s

/-! ## Privilege (R330, R331) -/

/-- User mode, as the privilege check and RDMODE read it: SU[0] (R32, R331; log 36). -/
def State.userMode (s : State) : Bool := s.config.is3000A && s.su.getLsbD 0

/-- A privileged instruction: refused in user mode on a 3000A (R331, D13), else it sets `inhibit` (R37). -/
def State.privileged (s : State) (k : State → Out) : Out :=
  if s.userMode then .refused .privilegedInUserMode else k { s with inhibit := true }

/-! ## Traps and interrupts (60_exceptions.md) -/

/-- Push system mode onto SU, if the part has an SU and the parameter says so (R11). -/
def State.pushSystemMode (s : State) : State :=
  if s.config.is3000A ∧ s.config.suOnTrap = .pushSystem then { s with su := s.su.extractLsb' 0 6 ++ 0#2 } else s

/-- Enter a trap or an interrupt (R145, R146, R321, R325): push the return address, push system mode onto SU under
SU_ON_TRAP, go to the entry. Nothing else is saved. -/
def State.enterTrap (s : State) (ret entry : Word) : State :=
  { (s.pushWord ret).pushSystemMode with pc := entry }

/-- The address of an interrupt's entry (R325). -/
def State.irqEntry (s : State) : IrqTarget → Word
  | .internal offset => word s.iir offset
  | .external offset => word s.eir offset
  | .address a => a

/-- The environment's offer at this boundary, if the core accepts it: `inhibit` clear and the priority above IP[1:0]
(R324; PRESUMED, log 18). -/
def State.acceptedIrq (s : State) : Option Irq :=
  match s.irqs with
  | some e :: _ => if s.inhibit = false ∧ s.ip.extractLsb' 0 2 < e.priority then some e else none
  | _ => none

/-- Take an accepted interrupt (R325; PRESUMED, log 18): the return address is pc, the priority is shifted into IP.
The offer is used up. -/
def State.takeInterrupt (s : State) (e : Irq) : State :=
  { s.enterTrap s.pc (s.irqEntry e.target) with ip := s.ip.extractLsb' 0 6 ++ e.priority, irqs := s.irqs.tail }

/-- The boundary before an instruction that runs: the offer of this boundary is past (R324), and the hold-off of the
instruction before is cleared by this one (R37; log 19). -/
def State.beginInstr (s : State) : State := { s with inhibit := false, irqs := s.irqs.tail }

/-- Return from interrupt (R144, R328): pop IP, then PC. SU is not written. -/
def State.returnFromInterrupt (s : State) (k : State → Out) : Out :=
  s.popByte fun ip s => s.popWord fun ret s => k { s with ip := ip, pc := ret }

/-! ## Fetch (R24, R69, R79) -/

/-- Up to `n` instruction bytes from a logical address on, ending before the first byte that has no value. -/
def State.fetchFrom (s : State) : Nat → Word → List Byte
  | 0, _ => []
  | n + 1, a =>
    match s.readByte a with
    | some v => v :: s.fetchFrom n (a + 1)
    | none => []

/-- The bytes at pc, as many as the longest instruction takes. -/
def State.fetch (s : State) : List Byte := s.fetchFrom maxLength s.pc

/-- Fetch, decode, and go on with the instruction. Bytes that end inside an instruction end before a byte of memory
that has no value (log 16). -/
def State.fetchDecode (s : State) (k : Instr → Out) : Out :=
  match decode s.config.is3000A s.fetch with
  | .ok (i, _) => k i
  | .error .notInSpec => .refused .notInSpec
  | .error .truncated => .fault (.unwrittenMemory (s.translate (s.pc + BitVec.ofNat 16 s.fetch.length)))

/-- Put bytes at a logical address and the ones after it. -/
def State.placeBytes (s : State) : Word → List Byte → State
  | _, [] => s
  | a, v :: vs => (s.store a v).placeBytes (a + 1) vs

/-- The environment with no offer at this boundary. -/
def State.noOffer (s : State) : State :=
  { s with irqs := match s.irqs with
                   | _ :: rest => none :: rest
                   | [] => [] }

end Sys2Proof.Machine
end

