-- ==== Sys2Proof/Machine/Operands.lean ====
section
/-! DEFINITION. Every operand form of the instructions (00_scope.md R18, 30_encoding.md R93 to R97), and the rotates,
shifts and bit operations on a value (47_rotate_shift.md R270, 46_bit.md R260). -/

namespace Sys2Proof.Machine

/-- Read `r` (R20). -/
def State.getR (s : State) : Reg8 → Byte
  | .a => s.a
  | .b => s.b
  | .c => s.c
  | .d => s.d
  | .e => s.e
  | .h => s.h
  | .l => s.l

/-- Write `r`. -/
def State.setR (s : State) (r : Reg8) (v : Byte) : State :=
  match r with
  | .a => { s with a := v }
  | .b => { s with b := v }
  | .c => { s with c := v }
  | .d => { s with d := v }
  | .e => { s with e := v }
  | .h => { s with h := v }
  | .l => { s with l := v }

/-- Read IX or IY. -/
def State.getIndex (s : State) : Index → Word
  | .ix => s.ix
  | .iy => s.iy

/-- Write IX or IY. -/
def State.setIndex (s : State) (i : Index) (v : Word) : State :=
  match i with
  | .ix => { s with ix := v }
  | .iy => { s with iy := v }

/-- Read `ss` (R94). -/
def State.getSs (s : State) : Ss → Word
  | .bc => s.bc
  | .de => s.de
  | .hl => s.hl
  | .sp => s.sp

/-- The logical address of a memory operand: HL, or the index register plus the signed displacement, modulo 2^16
(R72, D4, D5; log 13, log 14). -/
def State.ea (s : State) : MemArg → Word
  | .hl => s.hl
  | .indexed i d => s.getIndex i + d.signExtend 16

/-- The truth of a condition (R29). -/
def State.holds (s : State) : Cond → Bool
  | .nz => !flagZ s.f
  | .z => flagZ s.f
  | .nc => !flagC s.f
  | .c => flagC s.f
  | .lz => !flagLV s.f
  | .lo => flagLV s.f
  | .p => !flagS s.f
  | .m => flagS s.f

/-- The offset of a restart's entry in the vector table, `2 * v` (R145, R322, C2). -/
def restartOffset : Restart → Byte
  | .v10 => 0x20
  | .v18 => 0x30
  | .v20 => 0x40
  | .v28 => 0x50
  | .v38 => 0x70

/-! ## Rotates and shifts (R270): the result and the bit shifted out, of the old value and the old carry -/

/-- The result byte. -/
def rotResult (op : Rot) (x : Byte) (c : Bool) : Byte :=
  match op with
  | .rl => x.extractLsb' 0 7 ++ BitVec.ofBool c
  | .rlc => x.extractLsb' 0 7 ++ x.extractLsb' 7 1
  | .rr => BitVec.ofBool c ++ x.extractLsb' 1 7
  | .rrc => x.extractLsb' 0 1 ++ x.extractLsb' 1 7
  | .sla => x.extractLsb' 0 7 ++ 0#1
  | .sra => x.extractLsb' 7 1 ++ x.extractLsb' 1 7
  | .srl => 0#1 ++ x.extractLsb' 1 7

/-- The bit that goes to the carry flag. -/
def rotCarry (op : Rot) (x : Byte) : Bool :=
  match op with
  | .rl | .rlc | .sla => x.getLsbD 7
  | .rr | .rrc | .sra | .srl => x.getLsbD 0

/-- RL on 16 bits: the result. -/
def rl16 (x : Word) (c : Bool) : Word := x.extractLsb' 0 15 ++ BitVec.ofBool c

/-- RR on 16 bits: the result. -/
def rr16 (x : Word) (c : Bool) : Word := BitVec.ofBool c ++ x.extractLsb' 1 15

/-! ## Bit operations (R260) -/

/-- RES clears bit `b`, SET sets it; the other seven bits are unchanged. -/
def bitResult (op : BitOp) (b : Fin 8) (x : Byte) : Byte :=
  match op with
  | .res => x &&& ~~~(1#8 <<< b.val)
  | .set => x ||| (1#8 <<< b.val)

end Sys2Proof.Machine
end

