-- ==== Sys2Proof/Machine/Arith.lean ====
section
/-! DEFINITION. Integer arithmetic: MUL, NEG, SUB, SBC (43_arith.md). -/

namespace Sys2Proof.Machine

/-- `SUB y` into A (R183). -/
def subA (y : Byte) (len : Word) (s : State) : Out :=
  .next (({ s with a := difference s.a y false }.putFlags (subFlags s.a y)).advance len)

/-- `SBC y` into A (R189). -/
def sbcA (y : Byte) (len : Word) (s : State) : Out :=
  .next (({ s with a := difference s.a y (flagC s.f) }.putFlags (sbcFlags s.a y (flagC s.f))).advance len)

/-- `SBC HL,ss` (R195). -/
def sbcHL (y : Word) (s : State) : Out :=
  .next (((s.setHL (difference s.hl y (flagC s.f))).putFlags (sbcFlags s.hl y (flagC s.f))).advance 2)

/-- `MUL` (R181). -/
def execMul (s : State) : Out :=
  let p : BitVec 32 := BitVec.ofInt 32 (s.bc.toInt * s.de.toInt)
  .next ((((s.setHL (p.extractLsb' 16 16)).setBC (p.extractLsb' 0 16)).putFlags noFlags).advance 1)

/-- `NEG` (R182). -/
def execNeg (s : State) : Out :=
  .next (({ s with a := difference 0 s.a false }.putFlags (subFlags 0 s.a)).advance 2)

/-- `SUB (HL)` (R184). -/
def execSubAtHL (s : State) : Out := s.load (s.ea .hl) fun y => subA y 1 s

/-- `SUB (IX+d)` (R185). -/
def execSubAtIXd (d : Byte) (s : State) : Out := s.load (s.ea (.indexed .ix d)) fun y => subA y 3 s

/-- `SUB (IY+d)` (R186). -/
def execSubAtIYd (d : Byte) (s : State) : Out := s.load (s.ea (.indexed .iy d)) fun y => subA y 3 s

/-- `SUB n` (R187). -/
def execSubN (n : Byte) (s : State) : Out := subA n 2 s

/-- `SUB B` (R188). -/
def execSubB (s : State) : Out := subA (s.getR .b) 1 s

/-- `SUB C` (R188). -/
def execSubC (s : State) : Out := subA (s.getR .c) 1 s

/-- `SUB D` (R188). -/
def execSubD (s : State) : Out := subA (s.getR .d) 1 s

/-- `SUB E` (R188). -/
def execSubE (s : State) : Out := subA (s.getR .e) 1 s

/-- `SUB H` (R188). -/
def execSubH (s : State) : Out := subA (s.getR .h) 1 s

/-- `SUB L` (R188). -/
def execSubL (s : State) : Out := subA (s.getR .l) 1 s

/-- `SUB A` (R188). -/
def execSubA (s : State) : Out := subA (s.getR .a) 1 s

/-- `SBC A,(HL)` (R190). -/
def execSbcAAtHL (s : State) : Out := s.load (s.ea .hl) fun y => sbcA y 1 s

/-- `SBC (IX+d)` (R191). -/
def execSbcAtIXd (d : Byte) (s : State) : Out := s.load (s.ea (.indexed .ix d)) fun y => sbcA y 3 s

/-- `SBC (IY+d)` (R192). -/
def execSbcAtIYd (d : Byte) (s : State) : Out := s.load (s.ea (.indexed .iy d)) fun y => sbcA y 3 s

/-- `SBC A,n` (R193). -/
def execSbcAN (n : Byte) (s : State) : Out := sbcA n 2 s

/-- `SBC A,B` (R194). -/
def execSbcAB (s : State) : Out := sbcA (s.getR .b) 1 s

/-- `SBC A,C` (R194). -/
def execSbcAC (s : State) : Out := sbcA (s.getR .c) 1 s

/-- `SBC A,D` (R194). -/
def execSbcAD (s : State) : Out := sbcA (s.getR .d) 1 s

/-- `SBC A,E` (R194). -/
def execSbcAE (s : State) : Out := sbcA (s.getR .e) 1 s

/-- `SBC A,H` (R194). -/
def execSbcAH (s : State) : Out := sbcA (s.getR .h) 1 s

/-- `SBC A,L` (R194). -/
def execSbcAL (s : State) : Out := sbcA (s.getR .l) 1 s

/-- `SBC A,A` (R194). -/
def execSbcAA (s : State) : Out := sbcA (s.getR .a) 1 s

/-- `SBC HL,BC` (R195). -/
def execSbcHLBC (s : State) : Out := sbcHL (s.getSs .bc) s

/-- `SBC HL,DE` (R195). -/
def execSbcHLDE (s : State) : Out := sbcHL (s.getSs .de) s

/-- `SBC HL,HL` (R195). -/
def execSbcHLHL (s : State) : Out := sbcHL (s.getSs .hl) s

/-- `SBC HL,SP` (R195). -/
def execSbcHLSP (s : State) : Out := sbcHL (s.getSs .sp) s

end Sys2Proof.Machine
end

