-- ==== Sys2Proof/Machine/Bit.lean ====
section
/-! DEFINITION. Bit reset and bit set: RES, SET (46_bit.md). -/

namespace Sys2Proof.Machine

/-- RES or SET of a register bit; no flag is written (R260). -/
def bitRegister (op : BitOp) (b : Fin 8) (r : Reg8) (s : State) : Out :=
  .next (((s.setR r (bitResult op b (s.getR r))).putFlags noFlags).advance 2)

/-- RES or SET of a bit of a memory byte: one read, then one write to the same address, always (R260). -/
def bitMemory (op : BitOp) (b : Fin 8) (m : MemArg) (len : Word) (s : State) : Out :=
  s.load (s.ea m) fun x => .next (((s.store (s.ea m) (bitResult op b x)).putFlags noFlags).advance len)

/-- `RES 0,(HL)` (R261). -/
def execRes0AtHL (s : State) : Out := bitMemory .res 0 .hl 2 s

/-- `RES 1,(HL)` (R261). -/
def execRes1AtHL (s : State) : Out := bitMemory .res 1 .hl 2 s

/-- `RES 2,(HL)` (R261). -/
def execRes2AtHL (s : State) : Out := bitMemory .res 2 .hl 2 s

/-- `RES 3,(HL)` (R261). -/
def execRes3AtHL (s : State) : Out := bitMemory .res 3 .hl 2 s

/-- `RES 4,(HL)` (R261). -/
def execRes4AtHL (s : State) : Out := bitMemory .res 4 .hl 2 s

/-- `RES 5,(HL)` (R261). -/
def execRes5AtHL (s : State) : Out := bitMemory .res 5 .hl 2 s

/-- `RES 6,(HL)` (R261). -/
def execRes6AtHL (s : State) : Out := bitMemory .res 6 .hl 2 s

/-- `RES 7,(HL)` (R261). -/
def execRes7AtHL (s : State) : Out := bitMemory .res 7 .hl 2 s

/-- `RES 0,(IX+d)` (R262). -/
def execRes0AtIXd (d : Byte) (s : State) : Out := bitMemory .res 0 (.indexed .ix d) 4 s

/-- `RES 1,(IX+d)` (R262). -/
def execRes1AtIXd (d : Byte) (s : State) : Out := bitMemory .res 1 (.indexed .ix d) 4 s

/-- `RES 2,(IX+d)` (R262). -/
def execRes2AtIXd (d : Byte) (s : State) : Out := bitMemory .res 2 (.indexed .ix d) 4 s

/-- `RES 3,(IX+d)` (R262). -/
def execRes3AtIXd (d : Byte) (s : State) : Out := bitMemory .res 3 (.indexed .ix d) 4 s

/-- `RES 4,(IX+d)` (R262). -/
def execRes4AtIXd (d : Byte) (s : State) : Out := bitMemory .res 4 (.indexed .ix d) 4 s

/-- `RES 5,(IX+d)` (R262). -/
def execRes5AtIXd (d : Byte) (s : State) : Out := bitMemory .res 5 (.indexed .ix d) 4 s

/-- `RES 6,(IX+d)` (R262). -/
def execRes6AtIXd (d : Byte) (s : State) : Out := bitMemory .res 6 (.indexed .ix d) 4 s

/-- `RES 7,(IX+d)` (R262). -/
def execRes7AtIXd (d : Byte) (s : State) : Out := bitMemory .res 7 (.indexed .ix d) 4 s

/-- `RES 0,(IY+d)` (R263). -/
def execRes0AtIYd (d : Byte) (s : State) : Out := bitMemory .res 0 (.indexed .iy d) 4 s

/-- `RES 1,(IY+d)` (R263). -/
def execRes1AtIYd (d : Byte) (s : State) : Out := bitMemory .res 1 (.indexed .iy d) 4 s

/-- `RES 2,(IY+d)` (R263). -/
def execRes2AtIYd (d : Byte) (s : State) : Out := bitMemory .res 2 (.indexed .iy d) 4 s

/-- `RES 3,(IY+d)` (R263). -/
def execRes3AtIYd (d : Byte) (s : State) : Out := bitMemory .res 3 (.indexed .iy d) 4 s

/-- `RES 4,(IY+d)` (R263). -/
def execRes4AtIYd (d : Byte) (s : State) : Out := bitMemory .res 4 (.indexed .iy d) 4 s

/-- `RES 5,(IY+d)` (R263). -/
def execRes5AtIYd (d : Byte) (s : State) : Out := bitMemory .res 5 (.indexed .iy d) 4 s

/-- `RES 6,(IY+d)` (R263). -/
def execRes6AtIYd (d : Byte) (s : State) : Out := bitMemory .res 6 (.indexed .iy d) 4 s

/-- `RES 7,(IY+d)` (R263). -/
def execRes7AtIYd (d : Byte) (s : State) : Out := bitMemory .res 7 (.indexed .iy d) 4 s

/-- `RES 0,B` (R264). -/
def execRes0B (s : State) : Out := bitRegister .res 0 .b s

/-- `RES 0,C` (R264). -/
def execRes0C (s : State) : Out := bitRegister .res 0 .c s

/-- `RES 0,D` (R264). -/
def execRes0D (s : State) : Out := bitRegister .res 0 .d s

/-- `RES 0,E` (R264). -/
def execRes0E (s : State) : Out := bitRegister .res 0 .e s

/-- `RES 0,H` (R264). -/
def execRes0H (s : State) : Out := bitRegister .res 0 .h s

/-- `RES 0,L` (R264). -/
def execRes0L (s : State) : Out := bitRegister .res 0 .l s

/-- `RES 0,A` (R264). -/
def execRes0A (s : State) : Out := bitRegister .res 0 .a s

/-- `RES 1,B` (R264). -/
def execRes1B (s : State) : Out := bitRegister .res 1 .b s

/-- `RES 1,C` (R264). -/
def execRes1C (s : State) : Out := bitRegister .res 1 .c s

/-- `RES 1,D` (R264). -/
def execRes1D (s : State) : Out := bitRegister .res 1 .d s

/-- `RES 1,E` (R264). -/
def execRes1E (s : State) : Out := bitRegister .res 1 .e s

/-- `RES 1,H` (R264). -/
def execRes1H (s : State) : Out := bitRegister .res 1 .h s

/-- `RES 1,L` (R264). -/
def execRes1L (s : State) : Out := bitRegister .res 1 .l s

/-- `RES 1,A` (R264). -/
def execRes1A (s : State) : Out := bitRegister .res 1 .a s

/-- `RES 2,B` (R264). -/
def execRes2B (s : State) : Out := bitRegister .res 2 .b s

/-- `RES 2,C` (R264). -/
def execRes2C (s : State) : Out := bitRegister .res 2 .c s

/-- `RES 2,D` (R264). -/
def execRes2D (s : State) : Out := bitRegister .res 2 .d s

/-- `RES 2,E` (R264). -/
def execRes2E (s : State) : Out := bitRegister .res 2 .e s

/-- `RES 2,H` (R264). -/
def execRes2H (s : State) : Out := bitRegister .res 2 .h s

/-- `RES 2,L` (R264). -/
def execRes2L (s : State) : Out := bitRegister .res 2 .l s

/-- `RES 2,A` (R264). -/
def execRes2A (s : State) : Out := bitRegister .res 2 .a s

/-- `RES 3,B` (R264). -/
def execRes3B (s : State) : Out := bitRegister .res 3 .b s

/-- `RES 3,C` (R264). -/
def execRes3C (s : State) : Out := bitRegister .res 3 .c s

/-- `RES 3,D` (R264). -/
def execRes3D (s : State) : Out := bitRegister .res 3 .d s

/-- `RES 3,E` (R264). -/
def execRes3E (s : State) : Out := bitRegister .res 3 .e s

/-- `RES 3,H` (R264). -/
def execRes3H (s : State) : Out := bitRegister .res 3 .h s

/-- `RES 3,L` (R264). -/
def execRes3L (s : State) : Out := bitRegister .res 3 .l s

/-- `RES 3,A` (R264). -/
def execRes3A (s : State) : Out := bitRegister .res 3 .a s

/-- `RES 4,B` (R264). -/
def execRes4B (s : State) : Out := bitRegister .res 4 .b s

/-- `RES 4,C` (R264). -/
def execRes4C (s : State) : Out := bitRegister .res 4 .c s

/-- `RES 4,D` (R264). -/
def execRes4D (s : State) : Out := bitRegister .res 4 .d s

/-- `RES 4,E` (R264). -/
def execRes4E (s : State) : Out := bitRegister .res 4 .e s

/-- `RES 4,H` (R264). -/
def execRes4H (s : State) : Out := bitRegister .res 4 .h s

/-- `RES 4,L` (R264). -/
def execRes4L (s : State) : Out := bitRegister .res 4 .l s

/-- `RES 4,A` (R264). -/
def execRes4A (s : State) : Out := bitRegister .res 4 .a s

/-- `RES 5,B` (R264). -/
def execRes5B (s : State) : Out := bitRegister .res 5 .b s

/-- `RES 5,C` (R264). -/
def execRes5C (s : State) : Out := bitRegister .res 5 .c s

/-- `RES 5,D` (R264). -/
def execRes5D (s : State) : Out := bitRegister .res 5 .d s

/-- `RES 5,E` (R264). -/
def execRes5E (s : State) : Out := bitRegister .res 5 .e s

/-- `RES 5,H` (R264). -/
def execRes5H (s : State) : Out := bitRegister .res 5 .h s

/-- `RES 5,L` (R264). -/
def execRes5L (s : State) : Out := bitRegister .res 5 .l s

/-- `RES 5,A` (R264). -/
def execRes5A (s : State) : Out := bitRegister .res 5 .a s

/-- `RES 6,B` (R264). -/
def execRes6B (s : State) : Out := bitRegister .res 6 .b s

/-- `RES 6,C` (R264). -/
def execRes6C (s : State) : Out := bitRegister .res 6 .c s

/-- `RES 6,D` (R264). -/
def execRes6D (s : State) : Out := bitRegister .res 6 .d s

/-- `RES 6,E` (R264). -/
def execRes6E (s : State) : Out := bitRegister .res 6 .e s

/-- `RES 6,H` (R264). -/
def execRes6H (s : State) : Out := bitRegister .res 6 .h s

/-- `RES 6,L` (R264). -/
def execRes6L (s : State) : Out := bitRegister .res 6 .l s

/-- `RES 6,A` (R264). -/
def execRes6A (s : State) : Out := bitRegister .res 6 .a s

/-- `RES 7,B` (R264). -/
def execRes7B (s : State) : Out := bitRegister .res 7 .b s

/-- `RES 7,C` (R264). -/
def execRes7C (s : State) : Out := bitRegister .res 7 .c s

/-- `RES 7,D` (R264). -/
def execRes7D (s : State) : Out := bitRegister .res 7 .d s

/-- `RES 7,E` (R264). -/
def execRes7E (s : State) : Out := bitRegister .res 7 .e s

/-- `RES 7,H` (R264). -/
def execRes7H (s : State) : Out := bitRegister .res 7 .h s

/-- `RES 7,L` (R264). -/
def execRes7L (s : State) : Out := bitRegister .res 7 .l s

/-- `RES 7,A` (R264). -/
def execRes7A (s : State) : Out := bitRegister .res 7 .a s

/-- `SET 0,(HL)` (R265). -/
def execSet0AtHL (s : State) : Out := bitMemory .set 0 .hl 2 s

/-- `SET 1,(HL)` (R265). -/
def execSet1AtHL (s : State) : Out := bitMemory .set 1 .hl 2 s

/-- `SET 2,(HL)` (R265). -/
def execSet2AtHL (s : State) : Out := bitMemory .set 2 .hl 2 s

/-- `SET 3,(HL)` (R265). -/
def execSet3AtHL (s : State) : Out := bitMemory .set 3 .hl 2 s

/-- `SET 4,(HL)` (R265). -/
def execSet4AtHL (s : State) : Out := bitMemory .set 4 .hl 2 s

/-- `SET 5,(HL)` (R265). -/
def execSet5AtHL (s : State) : Out := bitMemory .set 5 .hl 2 s

/-- `SET 6,(HL)` (R265). -/
def execSet6AtHL (s : State) : Out := bitMemory .set 6 .hl 2 s

/-- `SET 7,(HL)` (R265). -/
def execSet7AtHL (s : State) : Out := bitMemory .set 7 .hl 2 s

/-- `SET 0,(IX+d)` (R266). -/
def execSet0AtIXd (d : Byte) (s : State) : Out := bitMemory .set 0 (.indexed .ix d) 4 s

/-- `SET 1,(IX+d)` (R266). -/
def execSet1AtIXd (d : Byte) (s : State) : Out := bitMemory .set 1 (.indexed .ix d) 4 s

/-- `SET 2,(IX+d)` (R266). -/
def execSet2AtIXd (d : Byte) (s : State) : Out := bitMemory .set 2 (.indexed .ix d) 4 s

/-- `SET 3,(IX+d)` (R266). -/
def execSet3AtIXd (d : Byte) (s : State) : Out := bitMemory .set 3 (.indexed .ix d) 4 s

/-- `SET 4,(IX+d)` (R266). -/
def execSet4AtIXd (d : Byte) (s : State) : Out := bitMemory .set 4 (.indexed .ix d) 4 s

/-- `SET 5,(IX+d)` (R266). -/
def execSet5AtIXd (d : Byte) (s : State) : Out := bitMemory .set 5 (.indexed .ix d) 4 s

/-- `SET 6,(IX+d)` (R266). -/
def execSet6AtIXd (d : Byte) (s : State) : Out := bitMemory .set 6 (.indexed .ix d) 4 s

/-- `SET 7,(IX+d)` (R266). -/
def execSet7AtIXd (d : Byte) (s : State) : Out := bitMemory .set 7 (.indexed .ix d) 4 s

/-- `SET 0,(IY+d)` (R267). -/
def execSet0AtIYd (d : Byte) (s : State) : Out := bitMemory .set 0 (.indexed .iy d) 4 s

/-- `SET 1,(IY+d)` (R267). -/
def execSet1AtIYd (d : Byte) (s : State) : Out := bitMemory .set 1 (.indexed .iy d) 4 s

/-- `SET 2,(IY+d)` (R267). -/
def execSet2AtIYd (d : Byte) (s : State) : Out := bitMemory .set 2 (.indexed .iy d) 4 s

/-- `SET 3,(IY+d)` (R267). -/
def execSet3AtIYd (d : Byte) (s : State) : Out := bitMemory .set 3 (.indexed .iy d) 4 s

/-- `SET 4,(IY+d)` (R267). -/
def execSet4AtIYd (d : Byte) (s : State) : Out := bitMemory .set 4 (.indexed .iy d) 4 s

/-- `SET 5,(IY+d)` (R267). -/
def execSet5AtIYd (d : Byte) (s : State) : Out := bitMemory .set 5 (.indexed .iy d) 4 s

/-- `SET 6,(IY+d)` (R267). -/
def execSet6AtIYd (d : Byte) (s : State) : Out := bitMemory .set 6 (.indexed .iy d) 4 s

/-- `SET 7,(IY+d)` (R267). -/
def execSet7AtIYd (d : Byte) (s : State) : Out := bitMemory .set 7 (.indexed .iy d) 4 s

/-- `SET 0,B` (R268). -/
def execSet0B (s : State) : Out := bitRegister .set 0 .b s

/-- `SET 0,C` (R268). -/
def execSet0C (s : State) : Out := bitRegister .set 0 .c s

/-- `SET 0,D` (R268). -/
def execSet0D (s : State) : Out := bitRegister .set 0 .d s

/-- `SET 0,E` (R268). -/
def execSet0E (s : State) : Out := bitRegister .set 0 .e s

/-- `SET 0,H` (R268). -/
def execSet0H (s : State) : Out := bitRegister .set 0 .h s

/-- `SET 0,L` (R268). -/
def execSet0L (s : State) : Out := bitRegister .set 0 .l s

/-- `SET 0,A` (R268). -/
def execSet0A (s : State) : Out := bitRegister .set 0 .a s

/-- `SET 1,B` (R268). -/
def execSet1B (s : State) : Out := bitRegister .set 1 .b s

/-- `SET 1,C` (R268). -/
def execSet1C (s : State) : Out := bitRegister .set 1 .c s

/-- `SET 1,D` (R268). -/
def execSet1D (s : State) : Out := bitRegister .set 1 .d s

/-- `SET 1,E` (R268). -/
def execSet1E (s : State) : Out := bitRegister .set 1 .e s

/-- `SET 1,H` (R268). -/
def execSet1H (s : State) : Out := bitRegister .set 1 .h s

/-- `SET 1,L` (R268). -/
def execSet1L (s : State) : Out := bitRegister .set 1 .l s

/-- `SET 1,A` (R268). -/
def execSet1A (s : State) : Out := bitRegister .set 1 .a s

/-- `SET 2,B` (R268). -/
def execSet2B (s : State) : Out := bitRegister .set 2 .b s

/-- `SET 2,C` (R268). -/
def execSet2C (s : State) : Out := bitRegister .set 2 .c s

/-- `SET 2,D` (R268). -/
def execSet2D (s : State) : Out := bitRegister .set 2 .d s

/-- `SET 2,E` (R268). -/
def execSet2E (s : State) : Out := bitRegister .set 2 .e s

/-- `SET 2,H` (R268). -/
def execSet2H (s : State) : Out := bitRegister .set 2 .h s

/-- `SET 2,L` (R268). -/
def execSet2L (s : State) : Out := bitRegister .set 2 .l s

/-- `SET 2,A` (R268). -/
def execSet2A (s : State) : Out := bitRegister .set 2 .a s

/-- `SET 3,B` (R268). -/
def execSet3B (s : State) : Out := bitRegister .set 3 .b s

/-- `SET 3,C` (R268). -/
def execSet3C (s : State) : Out := bitRegister .set 3 .c s

/-- `SET 3,D` (R268). -/
def execSet3D (s : State) : Out := bitRegister .set 3 .d s

/-- `SET 3,E` (R268). -/
def execSet3E (s : State) : Out := bitRegister .set 3 .e s

/-- `SET 3,H` (R268). -/
def execSet3H (s : State) : Out := bitRegister .set 3 .h s

/-- `SET 3,L` (R268). -/
def execSet3L (s : State) : Out := bitRegister .set 3 .l s

/-- `SET 3,A` (R268). -/
def execSet3A (s : State) : Out := bitRegister .set 3 .a s

/-- `SET 4,B` (R268). -/
def execSet4B (s : State) : Out := bitRegister .set 4 .b s

/-- `SET 4,C` (R268). -/
def execSet4C (s : State) : Out := bitRegister .set 4 .c s

/-- `SET 4,D` (R268). -/
def execSet4D (s : State) : Out := bitRegister .set 4 .d s

/-- `SET 4,E` (R268). -/
def execSet4E (s : State) : Out := bitRegister .set 4 .e s

/-- `SET 4,H` (R268). -/
def execSet4H (s : State) : Out := bitRegister .set 4 .h s

/-- `SET 4,L` (R268). -/
def execSet4L (s : State) : Out := bitRegister .set 4 .l s

/-- `SET 4,A` (R268). -/
def execSet4A (s : State) : Out := bitRegister .set 4 .a s

/-- `SET 5,B` (R268). -/
def execSet5B (s : State) : Out := bitRegister .set 5 .b s

/-- `SET 5,C` (R268). -/
def execSet5C (s : State) : Out := bitRegister .set 5 .c s

/-- `SET 5,D` (R268). -/
def execSet5D (s : State) : Out := bitRegister .set 5 .d s

/-- `SET 5,E` (R268). -/
def execSet5E (s : State) : Out := bitRegister .set 5 .e s

/-- `SET 5,H` (R268). -/
def execSet5H (s : State) : Out := bitRegister .set 5 .h s

/-- `SET 5,L` (R268). -/
def execSet5L (s : State) : Out := bitRegister .set 5 .l s

/-- `SET 5,A` (R268). -/
def execSet5A (s : State) : Out := bitRegister .set 5 .a s

/-- `SET 6,B` (R268). -/
def execSet6B (s : State) : Out := bitRegister .set 6 .b s

/-- `SET 6,C` (R268). -/
def execSet6C (s : State) : Out := bitRegister .set 6 .c s

/-- `SET 6,D` (R268). -/
def execSet6D (s : State) : Out := bitRegister .set 6 .d s

/-- `SET 6,E` (R268). -/
def execSet6E (s : State) : Out := bitRegister .set 6 .e s

/-- `SET 6,H` (R268). -/
def execSet6H (s : State) : Out := bitRegister .set 6 .h s

/-- `SET 6,L` (R268). -/
def execSet6L (s : State) : Out := bitRegister .set 6 .l s

/-- `SET 6,A` (R268). -/
def execSet6A (s : State) : Out := bitRegister .set 6 .a s

/-- `SET 7,B` (R268). -/
def execSet7B (s : State) : Out := bitRegister .set 7 .b s

/-- `SET 7,C` (R268). -/
def execSet7C (s : State) : Out := bitRegister .set 7 .c s

/-- `SET 7,D` (R268). -/
def execSet7D (s : State) : Out := bitRegister .set 7 .d s

/-- `SET 7,E` (R268). -/
def execSet7E (s : State) : Out := bitRegister .set 7 .e s

/-- `SET 7,H` (R268). -/
def execSet7H (s : State) : Out := bitRegister .set 7 .h s

/-- `SET 7,L` (R268). -/
def execSet7L (s : State) : Out := bitRegister .set 7 .l s

/-- `SET 7,A` (R268). -/
def execSet7A (s : State) : Out := bitRegister .set 7 .a s

end Sys2Proof.Machine
end

