-- ==== Sys2Proof/Machine/Block.lean ====
section
/-! DEFINITION. Repeating instructions: LSDR, LSIR, LSDDR, LSIDR, UMA, UMS (42_block.md). -/

namespace Sys2Proof.Machine

/-! One execution is one iteration (R160); the test of BC follows its decrement, so BC = 0 at entry means 65,536
iterations (D17, log 21). -/

/-- `Src(HL)`: memory, or the I/O space of the prefix (R162). -/
def readSource (space : Option IoSpace) (s : State) (k : Byte → State → Out) : Out :=
  match space with
  | none => s.load s.hl fun v => k v s
  | some space => k (s.ioRead space s.hl).1 (s.ioRead space s.hl).2

/-- The step DE takes (R163 to R166). -/
def copyStepDE : Copy → Word
  | .lsdr | .lsddr => -1
  | .lsir | .lsidr => 1

/-- The step HL takes: none for LSDDR and LSIDR (R165, R166). -/
def copyStepHL : Copy → Word
  | .lsdr => -1
  | .lsir => 1
  | .lsddr | .lsidr => 0

/-- One iteration of a block copy (R161 to R166). -/
def blockCopy (op : Copy) (space : Option IoSpace) (len : Word) (s : State) : Out :=
  readSource space s fun v s =>
    let count := s.bc - 1
    .next ((((((s.store s.de v).setBC count).setDE (s.de + copyStepDE op)).setHL (s.hl + copyStepHL op)).putFlags
      (overflowOnly (count != 0))).repeatOrAdvance len)

/-- `(IY) * DE + DE' + CF`, an exact integer (R167). -/
def macSum (s : State) (y : Byte) : Nat := y.toNat * s.de.toNat + s.deAlt.toNat + (flagC s.f).toNat

/-- The low byte, DE' and CF that the 25 bits `CY:DE':(HL)` hold (R168, R169). -/
def macSplit (t : BitVec 25) : Byte × Word × Bool := (t.extractLsb' 0 8, t.extractLsb' 8 16, t.getLsbD 24)

/-- (DE', CF) after UMS, under each reading of U2 (log 22). -/
def umsHigh (x y : Byte) (s : State) : Word × Bool :=
  match s.config.umsReading with
  | .literal => (macSplit (BitVec.ofInt 25 (x.toNat - macSum s y))).2
  | .borrowChain => (BitVec.ofNat 16 (macSum s y / 256), decide (x.toNat < macSum s y % 256))
  | .free => Config.umsHigh x y s.de s.deAlt (flagC s.f)

/-- What UMA and UMS do with the byte and (DE', CF) they have computed: store at HL, step the pointers and the count
(R167). -/
def macFinish (v : Byte) (high : Word × Bool) (s : State) : Out :=
  .next ((({ ((s.store s.hl v).setBC (s.bc - 1)).setHL (s.hl + 1) with
    deAlt := high.1, ix := s.ix + 1, iy := s.iy + 1 }).putFlags (carryOnly high.2)).repeatOrAdvance 2)

/-- `LSDR` (R163). -/
def execLsdr (s : State) : Out := blockCopy .lsdr none 2 s

/-- `IOI LSDR` (R163). -/
def execIoiLsdr (s : State) : Out := blockCopy .lsdr (some .internal) 3 s

/-- `IOE LSDR` (R163). -/
def execIoeLsdr (s : State) : Out := blockCopy .lsdr (some .external) 3 s

/-- `LSIR` (R164). -/
def execLsir (s : State) : Out := blockCopy .lsir none 2 s

/-- `IOI LSIR` (R164). -/
def execIoiLsir (s : State) : Out := blockCopy .lsir (some .internal) 3 s

/-- `IOE LSIR` (R164). -/
def execIoeLsir (s : State) : Out := blockCopy .lsir (some .external) 3 s

/-- `LSDDR` (R165). -/
def execLsddr (s : State) : Out := blockCopy .lsddr none 2 s

/-- `IOI LSDDR` (R165). -/
def execIoiLsddr (s : State) : Out := blockCopy .lsddr (some .internal) 3 s

/-- `IOE LSDDR` (R165). -/
def execIoeLsddr (s : State) : Out := blockCopy .lsddr (some .external) 3 s

/-- `LSIDR` (R166). -/
def execLsidr (s : State) : Out := blockCopy .lsidr none 2 s

/-- `IOI LSIDR` (R166). -/
def execIoiLsidr (s : State) : Out := blockCopy .lsidr (some .internal) 3 s

/-- `IOE LSIDR` (R166). -/
def execIoeLsidr (s : State) : Out := blockCopy .lsidr (some .external) 3 s

/-- `UMA` (R168). -/
def execUma (s : State) : Out :=
  s.load s.iy fun y => s.load s.ix fun x =>
    let t := macSplit (BitVec.ofNat 25 (x.toNat + macSum s y))
    macFinish t.1 t.2 s

/-- `UMS` (R169). -/
def execUms (s : State) : Out :=
  s.load s.iy fun y => s.load s.ix fun x =>
    let t := macSplit (BitVec.ofInt 25 (x.toNat - macSum s y))
    macFinish t.1 (umsHigh x y s) s

end Sys2Proof.Machine
end

