-- ==== Sys2Proof/Machine/Control.lean ====
section
/-! DEFINITION. Control transfers: LJP, LRET, RET, RET f, RETI, RST v, SYSCALL (41_control.md). -/

namespace Sys2Proof.Machine

/-- Pop PC (R142): the whole of RET, and of RET f when it is taken. -/
def returnNear (s : State) : Out :=
  s.popWord fun ret s => .next ({ s with pc := ret }.putFlags noFlags)

/-- RET f (R143): not taken, it reads no memory. -/
def returnIf (f : Cond) (s : State) : Out :=
  if s.holds f then returnNear s else .next ((s.putFlags noFlags).advance 1)

/-- RST v (R145): the return address is `next`, the entry `{IIR, 2 * v}`. -/
def restart (v : Restart) (s : State) : Out :=
  .next ((s.enterTrap (s.nextPc 1) (word s.iir (restartOffset v))).putFlags noFlags)

/-- `LJP x,mn` (R140). -/
def execLjp (x : Byte) (mn : Word) (s : State) : Out :=
  if mn < 0xE000#16 ∧ s.config.ljpAnyTarget = false then .refused .ljpTargetOutsideWindow
  else .next ({ s with xpc := x, pc := mn }.putFlags noFlags)

/-- `LRET` (R141). -/
def execLret (s : State) : Out :=
  s.loadWord s.sp fun ret => s.load (s.sp + 2) fun x =>
    .next ({ s with pc := ret, xpc := x, sp := s.sp + 3 }.putFlags noFlags)

/-- `RET` (R142). -/
def execRet (s : State) : Out := returnNear s

/-- `RET NZ` (R143). -/
def execRetNZ (s : State) : Out := returnIf .nz s

/-- `RET Z` (R143). -/
def execRetZ (s : State) : Out := returnIf .z s

/-- `RET NC` (R143). -/
def execRetNC (s : State) : Out := returnIf .nc s

/-- `RET C` (R143). -/
def execRetC (s : State) : Out := returnIf .c s

/-- `RET LZ` (R143). -/
def execRetLZ (s : State) : Out := returnIf .lz s

/-- `RET LO` (R143). -/
def execRetLO (s : State) : Out := returnIf .lo s

/-- `RET P` (R143). -/
def execRetP (s : State) : Out := returnIf .p s

/-- `RET M` (R143). -/
def execRetM (s : State) : Out := returnIf .m s

/-- `RETI` (R144). -/
def execReti (s : State) : Out :=
  s.privileged fun s => s.returnFromInterrupt fun s => .next (s.putFlags noFlags)

/-- `RST 10` (R145). -/
def execRst10 (s : State) : Out := restart .v10 s

/-- `RST 18` (R145). -/
def execRst18 (s : State) : Out := restart .v18 s

/-- `RST 20` (R145). -/
def execRst20 (s : State) : Out := restart .v20 s

/-- `RST 28` (R145). -/
def execRst28 (s : State) : Out := restart .v28 s

/-- `RST 38` (R145). -/
def execRst38 (s : State) : Out := restart .v38 s

/-- `SYSCALL` (R146). -/
def execSyscall (s : State) : Out :=
  .next ((s.enterTrap (s.nextPc 2) (word s.iir 0x60)).putFlags noFlags)

end Sys2Proof.Machine
end

