-- ==== Sys2Proof/Machine/Ldp.lean ====
section
/-! DEFINITION. LDP: loads and stores at 20-bit physical addresses (40_ldp.md). -/

namespace Sys2Proof.Machine

/-- A store of `v` at the page of A and address part `a` (R120); no flag is written (R33). -/
def ldpStore (a v len : Word) (s : State) : Out :=
  .next (((s.storeLdp a v).putFlags noFlags).advance len)

/-- A load from the page of A and address part `a` (R120). Both addresses come from the state before (R127, D33). -/
def ldpLoad (a len : Word) (put : State → Word → State) (s : State) : Out :=
  s.loadLdp a fun v => .next (((put s v).putFlags noFlags).advance len)

/-- `LDP (HL),HL` (R121). -/
def execLdpAtHLHL (s : State) : Out := ldpStore s.hl s.hl 2 s

/-- `LDP (IX),HL` (R122). -/
def execLdpAtIXHL (s : State) : Out := ldpStore s.ix s.hl 2 s

/-- `LDP (IY),HL` (R123). -/
def execLdpAtIYHL (s : State) : Out := ldpStore s.iy s.hl 2 s

/-- `LDP (mn),HL` (R124). -/
def execLdpAtMnHL (mn : Word) (s : State) : Out := ldpStore mn s.hl 4 s

/-- `LDP (mn),IX` (R125). -/
def execLdpAtMnIX (mn : Word) (s : State) : Out := ldpStore mn s.ix 4 s

/-- `LDP (mn),IY` (R126). -/
def execLdpAtMnIY (mn : Word) (s : State) : Out := ldpStore mn s.iy 4 s

/-- `LDP HL,(HL)` (R127). -/
def execLdpHLAtHL (s : State) : Out := ldpLoad s.hl 2 State.setHL s

/-- `LDP HL,(IX)` (R128). -/
def execLdpHLAtIX (s : State) : Out := ldpLoad s.ix 2 State.setHL s

/-- `LDP HL,(IY)` (R129). -/
def execLdpHLAtIY (s : State) : Out := ldpLoad s.iy 2 State.setHL s

/-- `LDP HL,(mn)` (R130). -/
def execLdpHLAtMn (mn : Word) (s : State) : Out := ldpLoad mn 4 State.setHL s

/-- `LDP IX,(mn)` (R131). -/
def execLdpIXAtMn (mn : Word) (s : State) : Out := ldpLoad mn 4 (fun s v => s.setIndex .ix v) s

/-- `LDP IY,(mn)` (R132). -/
def execLdpIYAtMn (mn : Word) (s : State) : Out := ldpLoad mn 4 (fun s v => s.setIndex .iy v) s

end Sys2Proof.Machine
end

