-- ==== Sys2Proof/Machine/Logic.lean ====
section
/-! DEFINITION. Logic and small operations: NOP, OR, XOR, SCF (44_logic.md). -/

namespace Sys2Proof.Machine

/-- The result of an 8-bit OR or XOR into A, with its flags (R211). -/
def logicA (res : Byte) (len : Word) (s : State) : Out :=
  .next (({ s with a := res }.putFlags (logicFlags res)).advance len)

/-- `OR y` (R211). -/
def orA (y : Byte) (len : Word) (s : State) : Out := logicA (s.a ||| y) len s

/-- `XOR y` (R211). -/
def xorA (y : Byte) (len : Word) (s : State) : Out := logicA (s.a ^^^ y) len s

/-- `OR IX,DE` and `OR IY,DE` (R216, R217). -/
def orIndex (i : Index) (s : State) : Out :=
  .next (((s.setIndex i (s.getIndex i ||| s.de)).putFlags (logicFlags (s.getIndex i ||| s.de))).advance 2)

/-- `NOP` (R210). -/
def execNop (s : State) : Out := .next ((s.putFlags noFlags).advance 1)

/-- `OR (HL)` (R212). -/
def execOrAtHL (s : State) : Out := s.load (s.ea .hl) fun y => orA y 1 s

/-- `OR (IX+d)` (R213). -/
def execOrAtIXd (d : Byte) (s : State) : Out := s.load (s.ea (.indexed .ix d)) fun y => orA y 3 s

/-- `OR (IY+d)` (R214). -/
def execOrAtIYd (d : Byte) (s : State) : Out := s.load (s.ea (.indexed .iy d)) fun y => orA y 3 s

/-- `OR n` (R218). -/
def execOrN (n : Byte) (s : State) : Out := orA n 2 s

/-- `OR B` (R219). -/
def execOrB (s : State) : Out := orA (s.getR .b) 1 s

/-- `OR C` (R219). -/
def execOrC (s : State) : Out := orA (s.getR .c) 1 s

/-- `OR D` (R219). -/
def execOrD (s : State) : Out := orA (s.getR .d) 1 s

/-- `OR E` (R219). -/
def execOrE (s : State) : Out := orA (s.getR .e) 1 s

/-- `OR H` (R219). -/
def execOrH (s : State) : Out := orA (s.getR .h) 1 s

/-- `OR L` (R219). -/
def execOrL (s : State) : Out := orA (s.getR .l) 1 s

/-- `OR A` (R219). -/
def execOrA (s : State) : Out := orA (s.getR .a) 1 s

/-- `OR HL,DE` (R215). -/
def execOrHLDE (s : State) : Out :=
  .next (((s.setHL (s.hl ||| s.de)).putFlags (logicFlags (s.hl ||| s.de))).advance 1)

/-- `OR IX,DE` (R216). -/
def execOrIXDE (s : State) : Out := orIndex .ix s

/-- `OR IY,DE` (R217). -/
def execOrIYDE (s : State) : Out := orIndex .iy s

/-- `XOR (HL)` (R220). -/
def execXorAtHL (s : State) : Out := s.load (s.ea .hl) fun y => xorA y 1 s

/-- `XOR (IX+d)` (R221). -/
def execXorAtIXd (d : Byte) (s : State) : Out := s.load (s.ea (.indexed .ix d)) fun y => xorA y 3 s

/-- `XOR (IY+d)` (R222). -/
def execXorAtIYd (d : Byte) (s : State) : Out := s.load (s.ea (.indexed .iy d)) fun y => xorA y 3 s

/-- `XOR n` (R223). -/
def execXorN (n : Byte) (s : State) : Out := xorA n 2 s

/-- `XOR B` (R224). -/
def execXorB (s : State) : Out := xorA (s.getR .b) 1 s

/-- `XOR C` (R224). -/
def execXorC (s : State) : Out := xorA (s.getR .c) 1 s

/-- `XOR D` (R224). -/
def execXorD (s : State) : Out := xorA (s.getR .d) 1 s

/-- `XOR E` (R224). -/
def execXorE (s : State) : Out := xorA (s.getR .e) 1 s

/-- `XOR H` (R224). -/
def execXorH (s : State) : Out := xorA (s.getR .h) 1 s

/-- `XOR L` (R224). -/
def execXorL (s : State) : Out := xorA (s.getR .l) 1 s

/-- `XOR A` (R224). -/
def execXorA (s : State) : Out := xorA (s.getR .a) 1 s

/-- `SCF` (R225). -/
def execScf (s : State) : Out := .next ((s.putFlags (carryOnly true)).advance 1)

end Sys2Proof.Machine
end

