-- ==== Sys2Proof/Machine/Rotate.lean ====
section
/-! DEFINITION. Rotates and shifts: RL, RLA, RLC, RLCA, RR, RRA, RRC, RRCA, SLA, SRA, SRL (47_rotate_shift.md). -/

namespace Sys2Proof.Machine

/-- A rotate or shift of a register on the CB page (R270, R271). -/
def rotRegister (op : Rot) (r : Reg8) (s : State) : Out :=
  let res := rotResult op (s.getR r) (flagC s.f)
  .next (((s.setR r res).putFlags (shiftFlags res (rotCarry op (s.getR r)))).advance 2)

/-- A rotate or shift of a memory byte: one read, then one write to the same address, always (R272). -/
def rotMemory (op : Rot) (m : MemArg) (len : Word) (s : State) : Out :=
  s.load (s.ea m) fun x =>
    let res := rotResult op x (flagC s.f)
    .next (((s.store (s.ea m) res).putFlags (shiftFlags res (rotCarry op x))).advance len)

/-- The one-byte accumulator forms: S, Z and L/V are not written (R271). -/
def rotAccumulator (op : Rot) (s : State) : Out :=
  .next (({ s with a := rotResult op s.a (flagC s.f) }.putFlags (carryOnly (rotCarry op s.a))).advance 1)

/-- A 16-bit rotate: write the result `res`, its flags, and the bit shifted out (R270, R271 with W = 16). -/
def rot16 (put : State → Word → State) (res : Word) (carry : Bool) (len : Word) (s : State) : Out :=
  .next (((put s res).putFlags (shiftFlags res carry)).advance len)

/-- `RL (HL)` (R274). -/
def execRlAtHL (s : State) : Out := rotMemory .rl .hl 2 s

/-- `RL (IX+d)` (R275). -/
def execRlAtIXd (d : Byte) (s : State) : Out := rotMemory .rl (.indexed .ix d) 4 s

/-- `RL (IY+d)` (R276). -/
def execRlAtIYd (d : Byte) (s : State) : Out := rotMemory .rl (.indexed .iy d) 4 s

/-- `RL B` (R278). -/
def execRlB (s : State) : Out := rotRegister .rl .b s

/-- `RL C` (R278). -/
def execRlC (s : State) : Out := rotRegister .rl .c s

/-- `RL D` (R278). -/
def execRlD (s : State) : Out := rotRegister .rl .d s

/-- `RL E` (R278). -/
def execRlE (s : State) : Out := rotRegister .rl .e s

/-- `RL H` (R278). -/
def execRlH (s : State) : Out := rotRegister .rl .h s

/-- `RL L` (R278). -/
def execRlL (s : State) : Out := rotRegister .rl .l s

/-- `RL A` (R278). -/
def execRlA (s : State) : Out := rotRegister .rl .a s

/-- `RLA` (R279). -/
def execRla (s : State) : Out := rotAccumulator .rl s

/-- `RL DE` (R277). -/
def execRlDE (s : State) : Out := rot16 State.setDE (rl16 s.de (flagC s.f)) (s.de.getLsbD 15) 1 s

/-- `RLC (HL)` (R280). -/
def execRlcAtHL (s : State) : Out := rotMemory .rlc .hl 2 s

/-- `RLC (IX+d)` (R281). -/
def execRlcAtIXd (d : Byte) (s : State) : Out := rotMemory .rlc (.indexed .ix d) 4 s

/-- `RLC (IY+d)` (R282). -/
def execRlcAtIYd (d : Byte) (s : State) : Out := rotMemory .rlc (.indexed .iy d) 4 s

/-- `RLC B` (R283). -/
def execRlcB (s : State) : Out := rotRegister .rlc .b s

/-- `RLC C` (R283). -/
def execRlcC (s : State) : Out := rotRegister .rlc .c s

/-- `RLC D` (R283). -/
def execRlcD (s : State) : Out := rotRegister .rlc .d s

/-- `RLC E` (R283). -/
def execRlcE (s : State) : Out := rotRegister .rlc .e s

/-- `RLC H` (R283). -/
def execRlcH (s : State) : Out := rotRegister .rlc .h s

/-- `RLC L` (R283). -/
def execRlcL (s : State) : Out := rotRegister .rlc .l s

/-- `RLC A` (R283). -/
def execRlcA (s : State) : Out := rotRegister .rlc .a s

/-- `RLCA` (R284). -/
def execRlca (s : State) : Out := rotAccumulator .rlc s

/-- `RR (HL)` (R285). -/
def execRrAtHL (s : State) : Out := rotMemory .rr .hl 2 s

/-- `RR (IX+d)` (R286). -/
def execRrAtIXd (d : Byte) (s : State) : Out := rotMemory .rr (.indexed .ix d) 4 s

/-- `RR (IY+d)` (R287). -/
def execRrAtIYd (d : Byte) (s : State) : Out := rotMemory .rr (.indexed .iy d) 4 s

/-- `RR B` (R292). -/
def execRrB (s : State) : Out := rotRegister .rr .b s

/-- `RR C` (R292). -/
def execRrC (s : State) : Out := rotRegister .rr .c s

/-- `RR D` (R292). -/
def execRrD (s : State) : Out := rotRegister .rr .d s

/-- `RR E` (R292). -/
def execRrE (s : State) : Out := rotRegister .rr .e s

/-- `RR H` (R292). -/
def execRrH (s : State) : Out := rotRegister .rr .h s

/-- `RR L` (R292). -/
def execRrL (s : State) : Out := rotRegister .rr .l s

/-- `RR A` (R292). -/
def execRrA (s : State) : Out := rotRegister .rr .a s

/-- `RRA` (R293). -/
def execRra (s : State) : Out := rotAccumulator .rr s

/-- `RR DE` (R288). -/
def execRrDE (s : State) : Out := rot16 State.setDE (rr16 s.de (flagC s.f)) (s.de.getLsbD 0) 1 s

/-- `RR HL` (R289). -/
def execRrHL (s : State) : Out := rot16 State.setHL (rr16 s.hl (flagC s.f)) (s.hl.getLsbD 0) 1 s

/-- `RR IX` (R290). -/
def execRrIX (s : State) : Out := rot16 (fun s v => s.setIndex .ix v) (rr16 s.ix (flagC s.f)) (s.ix.getLsbD 0) 2 s

/-- `RR IY` (R291). -/
def execRrIY (s : State) : Out := rot16 (fun s v => s.setIndex .iy v) (rr16 s.iy (flagC s.f)) (s.iy.getLsbD 0) 2 s

/-- `RRC (HL)` (R294). -/
def execRrcAtHL (s : State) : Out := rotMemory .rrc .hl 2 s

/-- `RRC (IX+d)` (R295). -/
def execRrcAtIXd (d : Byte) (s : State) : Out := rotMemory .rrc (.indexed .ix d) 4 s

/-- `RRC (IY+d)` (R296). -/
def execRrcAtIYd (d : Byte) (s : State) : Out := rotMemory .rrc (.indexed .iy d) 4 s

/-- `RRC B` (R297). -/
def execRrcB (s : State) : Out := rotRegister .rrc .b s

/-- `RRC C` (R297). -/
def execRrcC (s : State) : Out := rotRegister .rrc .c s

/-- `RRC D` (R297). -/
def execRrcD (s : State) : Out := rotRegister .rrc .d s

/-- `RRC E` (R297). -/
def execRrcE (s : State) : Out := rotRegister .rrc .e s

/-- `RRC H` (R297). -/
def execRrcH (s : State) : Out := rotRegister .rrc .h s

/-- `RRC L` (R297). -/
def execRrcL (s : State) : Out := rotRegister .rrc .l s

/-- `RRC A` (R297). -/
def execRrcA (s : State) : Out := rotRegister .rrc .a s

/-- `RRCA` (R298). -/
def execRrca (s : State) : Out := rotAccumulator .rrc s

/-- `SLA (HL)` (R299). -/
def execSlaAtHL (s : State) : Out := rotMemory .sla .hl 2 s

/-- `SLA (IX+d)` (R300). -/
def execSlaAtIXd (d : Byte) (s : State) : Out := rotMemory .sla (.indexed .ix d) 4 s

/-- `SLA (IY+d)` (R301). -/
def execSlaAtIYd (d : Byte) (s : State) : Out := rotMemory .sla (.indexed .iy d) 4 s

/-- `SLA B` (R302). -/
def execSlaB (s : State) : Out := rotRegister .sla .b s

/-- `SLA C` (R302). -/
def execSlaC (s : State) : Out := rotRegister .sla .c s

/-- `SLA D` (R302). -/
def execSlaD (s : State) : Out := rotRegister .sla .d s

/-- `SLA E` (R302). -/
def execSlaE (s : State) : Out := rotRegister .sla .e s

/-- `SLA H` (R302). -/
def execSlaH (s : State) : Out := rotRegister .sla .h s

/-- `SLA L` (R302). -/
def execSlaL (s : State) : Out := rotRegister .sla .l s

/-- `SLA A` (R302). -/
def execSlaA (s : State) : Out := rotRegister .sla .a s

/-- `SRA (HL)` (R303). -/
def execSraAtHL (s : State) : Out := rotMemory .sra .hl 2 s

/-- `SRA (IX+d)` (R304). -/
def execSraAtIXd (d : Byte) (s : State) : Out := rotMemory .sra (.indexed .ix d) 4 s

/-- `SRA (IY+d)` (R305). -/
def execSraAtIYd (d : Byte) (s : State) : Out := rotMemory .sra (.indexed .iy d) 4 s

/-- `SRA B` (R306). -/
def execSraB (s : State) : Out := rotRegister .sra .b s

/-- `SRA C` (R306). -/
def execSraC (s : State) : Out := rotRegister .sra .c s

/-- `SRA D` (R306). -/
def execSraD (s : State) : Out := rotRegister .sra .d s

/-- `SRA E` (R306). -/
def execSraE (s : State) : Out := rotRegister .sra .e s

/-- `SRA H` (R306). -/
def execSraH (s : State) : Out := rotRegister .sra .h s

/-- `SRA L` (R306). -/
def execSraL (s : State) : Out := rotRegister .sra .l s

/-- `SRA A` (R306). -/
def execSraA (s : State) : Out := rotRegister .sra .a s

/-- `SRL (HL)` (R307). -/
def execSrlAtHL (s : State) : Out := rotMemory .srl .hl 2 s

/-- `SRL (IX+d)` (R308). -/
def execSrlAtIXd (d : Byte) (s : State) : Out := rotMemory .srl (.indexed .ix d) 4 s

/-- `SRL (IY+d)` (R309). -/
def execSrlAtIYd (d : Byte) (s : State) : Out := rotMemory .srl (.indexed .iy d) 4 s

/-- `SRL B` (R269). -/
def execSrlB (s : State) : Out := rotRegister .srl .b s

/-- `SRL C` (R269). -/
def execSrlC (s : State) : Out := rotRegister .srl .c s

/-- `SRL D` (R269). -/
def execSrlD (s : State) : Out := rotRegister .srl .d s

/-- `SRL E` (R269). -/
def execSrlE (s : State) : Out := rotRegister .srl .e s

/-- `SRL H` (R269). -/
def execSrlH (s : State) : Out := rotRegister .srl .h s

/-- `SRL L` (R269). -/
def execSrlL (s : State) : Out := rotRegister .srl .l s

/-- `SRL A` (R269). -/
def execSrlA (s : State) : Out := rotRegister .srl .a s

end Sys2Proof.Machine
end

