-- ==== Sys2Proof/Machine/Stack.lean ====
section
/-! DEFINITION. Stack instructions: POP, PUSH (45_stack.md). -/

namespace Sys2Proof.Machine

/-- Pop a word into a register pair (R240). -/
def popInto (len : Word) (put : State → Word → State) (s : State) : Out :=
  s.popWord fun v s => .next (((put s v).putFlags noFlags).advance len)

/-- Push a word (R240). -/
def pushFrom (v len : Word) (s : State) : Out :=
  .next (((s.pushWord v).putFlags noFlags).advance len)

/-- Push a byte register by an instruction of two bytes (R240). -/
def pushByteFrom (v : Byte) (s : State) : Out :=
  .next (((s.pushByte v).putFlags noFlags).advance 2)

/-- `POP IP` (R241). -/
def execPopIP (s : State) : Out :=
  s.privileged fun s => s.popByte fun v s => .next (({ s with ip := v }.putFlags noFlags).advance 2)

/-- `POP IX` (R242). -/
def execPopIX (s : State) : Out := popInto 2 (fun s v => s.setIndex .ix v) s

/-- `POP IY` (R243). -/
def execPopIY (s : State) : Out := popInto 2 (fun s v => s.setIndex .iy v) s

/-- `POP SU` (R244). -/
def execPopSU (s : State) : Out :=
  s.privileged fun s => s.popByte fun v s => .next (({ s with su := v }.putFlags noFlags).advance 2)

/-- `POP AF` (R245): all eight bits of F are the byte read, the four flags with them (R28). -/
def execPopAF (s : State) : Out :=
  s.popWord fun v s => .next ({ s with a := hiByte v, f := loByte v }.advance 1)

/-- `POP BC` (R245). -/
def execPopBC (s : State) : Out := popInto 1 State.setBC s

/-- `POP DE` (R245). -/
def execPopDE (s : State) : Out := popInto 1 State.setDE s

/-- `POP HL` (R245). -/
def execPopHL (s : State) : Out := popInto 1 State.setHL s

/-- `PUSH IP` (R249). -/
def execPushIP (s : State) : Out := pushByteFrom s.ip s

/-- `PUSH IX` (R250). -/
def execPushIX (s : State) : Out := pushFrom s.ix 2 s

/-- `PUSH IY` (R251). -/
def execPushIY (s : State) : Out := pushFrom s.iy 2 s

/-- `PUSH AF` (R252): the four bits of F that hold no flag are stored as draws (R28, U8; log 9). -/
def execPushAF (s : State) : Out :=
  pushFrom (word s.a (mixFlags s.f (Config.draw s.draws))) 1 { s with draws := s.draws + 1 }

/-- `PUSH BC` (R252). -/
def execPushBC (s : State) : Out := pushFrom s.bc 1 s

/-- `PUSH DE` (R252). -/
def execPushDE (s : State) : Out := pushFrom s.de 1 s

/-- `PUSH HL` (R252). -/
def execPushHL (s : State) : Out := pushFrom s.hl 1 s

/-- `PUSH SU` (R253). -/
def execPushSU (s : State) : Out := s.privileged fun s => pushByteFrom s.su s

end Sys2Proof.Machine
end

