-- ==== Sys2Proof/Machine/System.lean ====
section
/-! DEFINITION. System and user mode: RDMODE, SETUSR, SURES (48_system.md; POP SU and PUSH SU stand in Stack.lean). -/

namespace Sys2Proof.Machine

/-- `RDMODE` (R311). -/
def execRdmode (s : State) : Out := .next ((s.putFlags (carryOnly (s.su.getLsbD 0))).advance 2)

/-- `SETUSR` (R312). -/
def execSetusr (s : State) : Out :=
  s.privileged fun s => .next (({ s with su := s.su.extractLsb' 0 6 ++ 1#2 }.putFlags noFlags).advance 2)

/-- `SURES` (R313). -/
def execSures (s : State) : Out :=
  s.privileged fun s => .next (({ s with su := s.su.extractLsb' 0 2 ++ s.su.extractLsb' 2 6 }.putFlags noFlags).advance 2)

end Sys2Proof.Machine
end

