-- ==== Sys2Proof/Machine/Dispatch.lean ====
section
/-! DEFINITION. The meaning of every instruction: one arm per constructor of `Instr`. -/

namespace Sys2Proof.Machine

def exec (i : Instr) (s : State) : Host.Outcome State Fault Refusal :=
  match i with
  | .ldpAtMnHL mn => Sys2Proof.Machine.execLdpAtMnHL mn s
  | .ldpAtMnIX mn => Sys2Proof.Machine.execLdpAtMnIX mn s
  | .ldpAtMnIY mn => Sys2Proof.Machine.execLdpAtMnIY mn s
  | .ldpHLAtMn mn => Sys2Proof.Machine.execLdpHLAtMn mn s
  | .ldpIXAtMn mn => Sys2Proof.Machine.execLdpIXAtMn mn s
  | .ldpIYAtMn mn => Sys2Proof.Machine.execLdpIYAtMn mn s
  | .ljp x mn => Sys2Proof.Machine.execLjp x mn s
  | .subAtIXd d => Sys2Proof.Machine.execSubAtIXd d s
  | .subAtIYd d => Sys2Proof.Machine.execSubAtIYd d s
  | .subN n => Sys2Proof.Machine.execSubN n s
  | .sbcAtIXd d => Sys2Proof.Machine.execSbcAtIXd d s
  | .sbcAtIYd d => Sys2Proof.Machine.execSbcAtIYd d s
  | .sbcAN n => Sys2Proof.Machine.execSbcAN n s
  | .orAtIXd d => Sys2Proof.Machine.execOrAtIXd d s
  | .orAtIYd d => Sys2Proof.Machine.execOrAtIYd d s
  | .orN n => Sys2Proof.Machine.execOrN n s
  | .xorAtIXd d => Sys2Proof.Machine.execXorAtIXd d s
  | .xorAtIYd d => Sys2Proof.Machine.execXorAtIYd d s
  | .xorN n => Sys2Proof.Machine.execXorN n s
  | .res0AtIXd d => Sys2Proof.Machine.execRes0AtIXd d s
  | .res1AtIXd d => Sys2Proof.Machine.execRes1AtIXd d s
  | .res2AtIXd d => Sys2Proof.Machine.execRes2AtIXd d s
  | .res3AtIXd d => Sys2Proof.Machine.execRes3AtIXd d s
  | .res4AtIXd d => Sys2Proof.Machine.execRes4AtIXd d s
  | .res5AtIXd d => Sys2Proof.Machine.execRes5AtIXd d s
  | .res6AtIXd d => Sys2Proof.Machine.execRes6AtIXd d s
  | .res7AtIXd d => Sys2Proof.Machine.execRes7AtIXd d s
  | .res0AtIYd d => Sys2Proof.Machine.execRes0AtIYd d s
  | .res1AtIYd d => Sys2Proof.Machine.execRes1AtIYd d s
  | .res2AtIYd d => Sys2Proof.Machine.execRes2AtIYd d s
  | .res3AtIYd d => Sys2Proof.Machine.execRes3AtIYd d s
  | .res4AtIYd d => Sys2Proof.Machine.execRes4AtIYd d s
  | .res5AtIYd d => Sys2Proof.Machine.execRes5AtIYd d s
  | .res6AtIYd d => Sys2Proof.Machine.execRes6AtIYd d s
  | .res7AtIYd d => Sys2Proof.Machine.execRes7AtIYd d s
  | .set0AtIXd d => Sys2Proof.Machine.execSet0AtIXd d s
  | .set1AtIXd d => Sys2Proof.Machine.execSet1AtIXd d s
  | .set2AtIXd d => Sys2Proof.Machine.execSet2AtIXd d s
  | .set3AtIXd d => Sys2Proof.Machine.execSet3AtIXd d s
  | .set4AtIXd d => Sys2Proof.Machine.execSet4AtIXd d s
  | .set5AtIXd d => Sys2Proof.Machine.execSet5AtIXd d s
  | .set6AtIXd d => Sys2Proof.Machine.execSet6AtIXd d s
  | .set7AtIXd d => Sys2Proof.Machine.execSet7AtIXd d s
  | .set0AtIYd d => Sys2Proof.Machine.execSet0AtIYd d s
  | .set1AtIYd d => Sys2Proof.Machine.execSet1AtIYd d s
  | .set2AtIYd d => Sys2Proof.Machine.execSet2AtIYd d s
  | .set3AtIYd d => Sys2Proof.Machine.execSet3AtIYd d s
  | .set4AtIYd d => Sys2Proof.Machine.execSet4AtIYd d s
  | .set5AtIYd d => Sys2Proof.Machine.execSet5AtIYd d s
  | .set6AtIYd d => Sys2Proof.Machine.execSet6AtIYd d s
  | .set7AtIYd d => Sys2Proof.Machine.execSet7AtIYd d s
  | .rlAtIXd d => Sys2Proof.Machine.execRlAtIXd d s
  | .rlAtIYd d => Sys2Proof.Machine.execRlAtIYd d s
  | .rlcAtIXd d => Sys2Proof.Machine.execRlcAtIXd d s
  | .rlcAtIYd d => Sys2Proof.Machine.execRlcAtIYd d s
  | .rrAtIXd d => Sys2Proof.Machine.execRrAtIXd d s
  | .rrAtIYd d => Sys2Proof.Machine.execRrAtIYd d s
  | .rrcAtIXd d => Sys2Proof.Machine.execRrcAtIXd d s
  | .rrcAtIYd d => Sys2Proof.Machine.execRrcAtIYd d s
  | .slaAtIXd d => Sys2Proof.Machine.execSlaAtIXd d s
  | .slaAtIYd d => Sys2Proof.Machine.execSlaAtIYd d s
  | .sraAtIXd d => Sys2Proof.Machine.execSraAtIXd d s
  | .sraAtIYd d => Sys2Proof.Machine.execSraAtIYd d s
  | .srlAtIXd d => Sys2Proof.Machine.execSrlAtIXd d s
  | .srlAtIYd d => Sys2Proof.Machine.execSrlAtIYd d s
  | .ldpAtHLHL => Sys2Proof.Machine.execLdpAtHLHL s
  | .ldpAtIXHL => Sys2Proof.Machine.execLdpAtIXHL s
  | .ldpAtIYHL => Sys2Proof.Machine.execLdpAtIYHL s
  | .ldpHLAtHL => Sys2Proof.Machine.execLdpHLAtHL s
  | .ldpHLAtIX => Sys2Proof.Machine.execLdpHLAtIX s
  | .ldpHLAtIY => Sys2Proof.Machine.execLdpHLAtIY s
  | .lret => Sys2Proof.Machine.execLret s
  | .ret => Sys2Proof.Machine.execRet s
  | .retNZ => Sys2Proof.Machine.execRetNZ s
  | .retZ => Sys2Proof.Machine.execRetZ s
  | .retNC => Sys2Proof.Machine.execRetNC s
  | .retC => Sys2Proof.Machine.execRetC s
  | .retLZ => Sys2Proof.Machine.execRetLZ s
  | .retLO => Sys2Proof.Machine.execRetLO s
  | .retP => Sys2Proof.Machine.execRetP s
  | .retM => Sys2Proof.Machine.execRetM s
  | .reti => Sys2Proof.Machine.execReti s
  | .rst10 => Sys2Proof.Machine.execRst10 s
  | .rst18 => Sys2Proof.Machine.execRst18 s
  | .rst20 => Sys2Proof.Machine.execRst20 s
  | .rst28 => Sys2Proof.Machine.execRst28 s
  | .rst38 => Sys2Proof.Machine.execRst38 s
  | .syscall => Sys2Proof.Machine.execSyscall s
  | .lsdr => Sys2Proof.Machine.execLsdr s
  | .ioiLsdr => Sys2Proof.Machine.execIoiLsdr s
  | .ioeLsdr => Sys2Proof.Machine.execIoeLsdr s
  | .lsir => Sys2Proof.Machine.execLsir s
  | .ioiLsir => Sys2Proof.Machine.execIoiLsir s
  | .ioeLsir => Sys2Proof.Machine.execIoeLsir s
  | .lsddr => Sys2Proof.Machine.execLsddr s
  | .ioiLsddr => Sys2Proof.Machine.execIoiLsddr s
  | .ioeLsddr => Sys2Proof.Machine.execIoeLsddr s
  | .lsidr => Sys2Proof.Machine.execLsidr s
  | .ioiLsidr => Sys2Proof.Machine.execIoiLsidr s
  | .ioeLsidr => Sys2Proof.Machine.execIoeLsidr s
  | .uma => Sys2Proof.Machine.execUma s
  | .ums => Sys2Proof.Machine.execUms s
  | .mul => Sys2Proof.Machine.execMul s
  | .neg => Sys2Proof.Machine.execNeg s
  | .subAtHL => Sys2Proof.Machine.execSubAtHL s
  | .subB => Sys2Proof.Machine.execSubB s
  | .subC => Sys2Proof.Machine.execSubC s
  | .subD => Sys2Proof.Machine.execSubD s
  | .subE => Sys2Proof.Machine.execSubE s
  | .subH => Sys2Proof.Machine.execSubH s
  | .subL => Sys2Proof.Machine.execSubL s
  | .subA => Sys2Proof.Machine.execSubA s
  | .sbcAAtHL => Sys2Proof.Machine.execSbcAAtHL s
  | .sbcAB => Sys2Proof.Machine.execSbcAB s
  | .sbcAC => Sys2Proof.Machine.execSbcAC s
  | .sbcAD => Sys2Proof.Machine.execSbcAD s
  | .sbcAE => Sys2Proof.Machine.execSbcAE s
  | .sbcAH => Sys2Proof.Machine.execSbcAH s
  | .sbcAL => Sys2Proof.Machine.execSbcAL s
  | .sbcAA => Sys2Proof.Machine.execSbcAA s
  | .sbcHLBC => Sys2Proof.Machine.execSbcHLBC s
  | .sbcHLDE => Sys2Proof.Machine.execSbcHLDE s
  | .sbcHLHL => Sys2Proof.Machine.execSbcHLHL s
  | .sbcHLSP => Sys2Proof.Machine.execSbcHLSP s
  | .nop => Sys2Proof.Machine.execNop s
  | .orAtHL => Sys2Proof.Machine.execOrAtHL s
  | .orHLDE => Sys2Proof.Machine.execOrHLDE s
  | .orIXDE => Sys2Proof.Machine.execOrIXDE s
  | .orIYDE => Sys2Proof.Machine.execOrIYDE s
  | .orB => Sys2Proof.Machine.execOrB s
  | .orC => Sys2Proof.Machine.execOrC s
  | .orD => Sys2Proof.Machine.execOrD s
  | .orE => Sys2Proof.Machine.execOrE s
  | .orH => Sys2Proof.Machine.execOrH s
  | .orL => Sys2Proof.Machine.execOrL s
  | .orA => Sys2Proof.Machine.execOrA s
  | .xorAtHL => Sys2Proof.Machine.execXorAtHL s
  | .xorB => Sys2Proof.Machine.execXorB s
  | .xorC => Sys2Proof.Machine.execXorC s
  | .xorD => Sys2Proof.Machine.execXorD s
  | .xorE => Sys2Proof.Machine.execXorE s
  | .xorH => Sys2Proof.Machine.execXorH s
  | .xorL => Sys2Proof.Machine.execXorL s
  | .xorA => Sys2Proof.Machine.execXorA s
  | .scf => Sys2Proof.Machine.execScf s
  | .popIP => Sys2Proof.Machine.execPopIP s
  | .popIX => Sys2Proof.Machine.execPopIX s
  | .popIY => Sys2Proof.Machine.execPopIY s
  | .popSU => Sys2Proof.Machine.execPopSU s
  | .popAF => Sys2Proof.Machine.execPopAF s
  | .popBC => Sys2Proof.Machine.execPopBC s
  | .popDE => Sys2Proof.Machine.execPopDE s
  | .popHL => Sys2Proof.Machine.execPopHL s
  | .pushIP => Sys2Proof.Machine.execPushIP s
  | .pushIX => Sys2Proof.Machine.execPushIX s
  | .pushIY => Sys2Proof.Machine.execPushIY s
  | .pushAF => Sys2Proof.Machine.execPushAF s
  | .pushBC => Sys2Proof.Machine.execPushBC s
  | .pushDE => Sys2Proof.Machine.execPushDE s
  | .pushHL => Sys2Proof.Machine.execPushHL s
  | .pushSU => Sys2Proof.Machine.execPushSU s
  | .res0AtHL => Sys2Proof.Machine.execRes0AtHL s
  | .res1AtHL => Sys2Proof.Machine.execRes1AtHL s
  | .res2AtHL => Sys2Proof.Machine.execRes2AtHL s
  | .res3AtHL => Sys2Proof.Machine.execRes3AtHL s
  | .res4AtHL => Sys2Proof.Machine.execRes4AtHL s
  | .res5AtHL => Sys2Proof.Machine.execRes5AtHL s
  | .res6AtHL => Sys2Proof.Machine.execRes6AtHL s
  | .res7AtHL => Sys2Proof.Machine.execRes7AtHL s
  | .res0B => Sys2Proof.Machine.execRes0B s
  | .res0C => Sys2Proof.Machine.execRes0C s
  | .res0D => Sys2Proof.Machine.execRes0D s
  | .res0E => Sys2Proof.Machine.execRes0E s
  | .res0H => Sys2Proof.Machine.execRes0H s
  | .res0L => Sys2Proof.Machine.execRes0L s
  | .res0A => Sys2Proof.Machine.execRes0A s
  | .res1B => Sys2Proof.Machine.execRes1B s
  | .res1C => Sys2Proof.Machine.execRes1C s
  | .res1D => Sys2Proof.Machine.execRes1D s
  | .res1E => Sys2Proof.Machine.execRes1E s
  | .res1H => Sys2Proof.Machine.execRes1H s
  | .res1L => Sys2Proof.Machine.execRes1L s
  | .res1A => Sys2Proof.Machine.execRes1A s
  | .res2B => Sys2Proof.Machine.execRes2B s
  | .res2C => Sys2Proof.Machine.execRes2C s
  | .res2D => Sys2Proof.Machine.execRes2D s
  | .res2E => Sys2Proof.Machine.execRes2E s
  | .res2H => Sys2Proof.Machine.execRes2H s
  | .res2L => Sys2Proof.Machine.execRes2L s
  | .res2A => Sys2Proof.Machine.execRes2A s
  | .res3B => Sys2Proof.Machine.execRes3B s
  | .res3C => Sys2Proof.Machine.execRes3C s
  | .res3D => Sys2Proof.Machine.execRes3D s
  | .res3E => Sys2Proof.Machine.execRes3E s
  | .res3H => Sys2Proof.Machine.execRes3H s
  | .res3L => Sys2Proof.Machine.execRes3L s
  | .res3A => Sys2Proof.Machine.execRes3A s
  | .res4B => Sys2Proof.Machine.execRes4B s
  | .res4C => Sys2Proof.Machine.execRes4C s
  | .res4D => Sys2Proof.Machine.execRes4D s
  | .res4E => Sys2Proof.Machine.execRes4E s
  | .res4H => Sys2Proof.Machine.execRes4H s
  | .res4L => Sys2Proof.Machine.execRes4L s
  | .res4A => Sys2Proof.Machine.execRes4A s
  | .res5B => Sys2Proof.Machine.execRes5B s
  | .res5C => Sys2Proof.Machine.execRes5C s
  | .res5D => Sys2Proof.Machine.execRes5D s
  | .res5E => Sys2Proof.Machine.execRes5E s
  | .res5H => Sys2Proof.Machine.execRes5H s
  | .res5L => Sys2Proof.Machine.execRes5L s
  | .res5A => Sys2Proof.Machine.execRes5A s
  | .res6B => Sys2Proof.Machine.execRes6B s
  | .res6C => Sys2Proof.Machine.execRes6C s
  | .res6D => Sys2Proof.Machine.execRes6D s
  | .res6E => Sys2Proof.Machine.execRes6E s
  | .res6H => Sys2Proof.Machine.execRes6H s
  | .res6L => Sys2Proof.Machine.execRes6L s
  | .res6A => Sys2Proof.Machine.execRes6A s
  | .res7B => Sys2Proof.Machine.execRes7B s
  | .res7C => Sys2Proof.Machine.execRes7C s
  | .res7D => Sys2Proof.Machine.execRes7D s
  | .res7E => Sys2Proof.Machine.execRes7E s
  | .res7H => Sys2Proof.Machine.execRes7H s
  | .res7L => Sys2Proof.Machine.execRes7L s
  | .res7A => Sys2Proof.Machine.execRes7A s
  | .set0AtHL => Sys2Proof.Machine.execSet0AtHL s
  | .set1AtHL => Sys2Proof.Machine.execSet1AtHL s
  | .set2AtHL => Sys2Proof.Machine.execSet2AtHL s
  | .set3AtHL => Sys2Proof.Machine.execSet3AtHL s
  | .set4AtHL => Sys2Proof.Machine.execSet4AtHL s
  | .set5AtHL => Sys2Proof.Machine.execSet5AtHL s
  | .set6AtHL => Sys2Proof.Machine.execSet6AtHL s
  | .set7AtHL => Sys2Proof.Machine.execSet7AtHL s
  | .set0B => Sys2Proof.Machine.execSet0B s
  | .set0C => Sys2Proof.Machine.execSet0C s
  | .set0D => Sys2Proof.Machine.execSet0D s
  | .set0E => Sys2Proof.Machine.execSet0E s
  | .set0H => Sys2Proof.Machine.execSet0H s
  | .set0L => Sys2Proof.Machine.execSet0L s
  | .set0A => Sys2Proof.Machine.execSet0A s
  | .set1B => Sys2Proof.Machine.execSet1B s
  | .set1C => Sys2Proof.Machine.execSet1C s
  | .set1D => Sys2Proof.Machine.execSet1D s
  | .set1E => Sys2Proof.Machine.execSet1E s
  | .set1H => Sys2Proof.Machine.execSet1H s
  | .set1L => Sys2Proof.Machine.execSet1L s
  | .set1A => Sys2Proof.Machine.execSet1A s
  | .set2B => Sys2Proof.Machine.execSet2B s
  | .set2C => Sys2Proof.Machine.execSet2C s
  | .set2D => Sys2Proof.Machine.execSet2D s
  | .set2E => Sys2Proof.Machine.execSet2E s
  | .set2H => Sys2Proof.Machine.execSet2H s
  | .set2L => Sys2Proof.Machine.execSet2L s
  | .set2A => Sys2Proof.Machine.execSet2A s
  | .set3B => Sys2Proof.Machine.execSet3B s
  | .set3C => Sys2Proof.Machine.execSet3C s
  | .set3D => Sys2Proof.Machine.execSet3D s
  | .set3E => Sys2Proof.Machine.execSet3E s
  | .set3H => Sys2Proof.Machine.execSet3H s
  | .set3L => Sys2Proof.Machine.execSet3L s
  | .set3A => Sys2Proof.Machine.execSet3A s
  | .set4B => Sys2Proof.Machine.execSet4B s
  | .set4C => Sys2Proof.Machine.execSet4C s
  | .set4D => Sys2Proof.Machine.execSet4D s
  | .set4E => Sys2Proof.Machine.execSet4E s
  | .set4H => Sys2Proof.Machine.execSet4H s
  | .set4L => Sys2Proof.Machine.execSet4L s
  | .set4A => Sys2Proof.Machine.execSet4A s
  | .set5B => Sys2Proof.Machine.execSet5B s
  | .set5C => Sys2Proof.Machine.execSet5C s
  | .set5D => Sys2Proof.Machine.execSet5D s
  | .set5E => Sys2Proof.Machine.execSet5E s
  | .set5H => Sys2Proof.Machine.execSet5H s
  | .set5L => Sys2Proof.Machine.execSet5L s
  | .set5A => Sys2Proof.Machine.execSet5A s
  | .set6B => Sys2Proof.Machine.execSet6B s
  | .set6C => Sys2Proof.Machine.execSet6C s
  | .set6D => Sys2Proof.Machine.execSet6D s
  | .set6E => Sys2Proof.Machine.execSet6E s
  | .set6H => Sys2Proof.Machine.execSet6H s
  | .set6L => Sys2Proof.Machine.execSet6L s
  | .set6A => Sys2Proof.Machine.execSet6A s
  | .set7B => Sys2Proof.Machine.execSet7B s
  | .set7C => Sys2Proof.Machine.execSet7C s
  | .set7D => Sys2Proof.Machine.execSet7D s
  | .set7E => Sys2Proof.Machine.execSet7E s
  | .set7H => Sys2Proof.Machine.execSet7H s
  | .set7L => Sys2Proof.Machine.execSet7L s
  | .set7A => Sys2Proof.Machine.execSet7A s
  | .rlAtHL => Sys2Proof.Machine.execRlAtHL s
  | .rlB => Sys2Proof.Machine.execRlB s
  | .rlC => Sys2Proof.Machine.execRlC s
  | .rlD => Sys2Proof.Machine.execRlD s
  | .rlE => Sys2Proof.Machine.execRlE s
  | .rlH => Sys2Proof.Machine.execRlH s
  | .rlL => Sys2Proof.Machine.execRlL s
  | .rlA => Sys2Proof.Machine.execRlA s
  | .rlDE => Sys2Proof.Machine.execRlDE s
  | .rla => Sys2Proof.Machine.execRla s
  | .rlcAtHL => Sys2Proof.Machine.execRlcAtHL s
  | .rlcB => Sys2Proof.Machine.execRlcB s
  | .rlcC => Sys2Proof.Machine.execRlcC s
  | .rlcD => Sys2Proof.Machine.execRlcD s
  | .rlcE => Sys2Proof.Machine.execRlcE s
  | .rlcH => Sys2Proof.Machine.execRlcH s
  | .rlcL => Sys2Proof.Machine.execRlcL s
  | .rlcA => Sys2Proof.Machine.execRlcA s
  | .rlca => Sys2Proof.Machine.execRlca s
  | .rrAtHL => Sys2Proof.Machine.execRrAtHL s
  | .rrB => Sys2Proof.Machine.execRrB s
  | .rrC => Sys2Proof.Machine.execRrC s
  | .rrD => Sys2Proof.Machine.execRrD s
  | .rrE => Sys2Proof.Machine.execRrE s
  | .rrH => Sys2Proof.Machine.execRrH s
  | .rrL => Sys2Proof.Machine.execRrL s
  | .rrA => Sys2Proof.Machine.execRrA s
  | .rrDE => Sys2Proof.Machine.execRrDE s
  | .rrHL => Sys2Proof.Machine.execRrHL s
  | .rrIX => Sys2Proof.Machine.execRrIX s
  | .rrIY => Sys2Proof.Machine.execRrIY s
  | .rra => Sys2Proof.Machine.execRra s
  | .rrcAtHL => Sys2Proof.Machine.execRrcAtHL s
  | .rrcB => Sys2Proof.Machine.execRrcB s
  | .rrcC => Sys2Proof.Machine.execRrcC s
  | .rrcD => Sys2Proof.Machine.execRrcD s
  | .rrcE => Sys2Proof.Machine.execRrcE s
  | .rrcH => Sys2Proof.Machine.execRrcH s
  | .rrcL => Sys2Proof.Machine.execRrcL s
  | .rrcA => Sys2Proof.Machine.execRrcA s
  | .rrca => Sys2Proof.Machine.execRrca s
  | .slaAtHL => Sys2Proof.Machine.execSlaAtHL s
  | .slaB => Sys2Proof.Machine.execSlaB s
  | .slaC => Sys2Proof.Machine.execSlaC s
  | .slaD => Sys2Proof.Machine.execSlaD s
  | .slaE => Sys2Proof.Machine.execSlaE s
  | .slaH => Sys2Proof.Machine.execSlaH s
  | .slaL => Sys2Proof.Machine.execSlaL s
  | .slaA => Sys2Proof.Machine.execSlaA s
  | .sraAtHL => Sys2Proof.Machine.execSraAtHL s
  | .sraB => Sys2Proof.Machine.execSraB s
  | .sraC => Sys2Proof.Machine.execSraC s
  | .sraD => Sys2Proof.Machine.execSraD s
  | .sraE => Sys2Proof.Machine.execSraE s
  | .sraH => Sys2Proof.Machine.execSraH s
  | .sraL => Sys2Proof.Machine.execSraL s
  | .sraA => Sys2Proof.Machine.execSraA s
  | .srlAtHL => Sys2Proof.Machine.execSrlAtHL s
  | .srlB => Sys2Proof.Machine.execSrlB s
  | .srlC => Sys2Proof.Machine.execSrlC s
  | .srlD => Sys2Proof.Machine.execSrlD s
  | .srlE => Sys2Proof.Machine.execSrlE s
  | .srlH => Sys2Proof.Machine.execSrlH s
  | .srlL => Sys2Proof.Machine.execSrlL s
  | .srlA => Sys2Proof.Machine.execSrlA s
  | .rdmode => Sys2Proof.Machine.execRdmode s
  | .setusr => Sys2Proof.Machine.execSetusr s
  | .sures => Sys2Proof.Machine.execSures s

end Sys2Proof.Machine
end

