-- ==== Sys2Proof/Machine/Step.lean ====
section
/-! DEFINITION. One step of the machine, and the state in which a given instruction is the next one fetched. -/

namespace Sys2Proof.Machine

/-- One step, at an instruction boundary or between two iterations of a repeating instruction (R324, R326): take the
interrupt the environment offers if the core accepts it, else fetch, decode and run the instruction at pc. -/
def step (s : State) : Host.Outcome State Fault Refusal :=
  match s.acceptedIrq with
  | some e => .next (s.takeInterrupt e)
  | none => s.beginInstr.fetchDecode fun i => exec i s.beginInstr

/-- `s` with the bytes of a table word (zeros after them, up to the longest instruction) stored at pc, and no
interrupt offered at this boundary, so that the next step fetches and runs that instruction. It stands for the load
of a program from outside the machine (log 30). -/
def State.withFetchWord (s : State) (nbits w : Nat) : State :=
  (s.placeBytes s.pc (tableBytes nbits w)).noOffer

end Sys2Proof.Machine
end

