-- ==== Sys2Proof/Safety.lean ====
section
/-! DEFINITION. The terms statements are made in: the sets of instructions the spec names (30_encoding.md,
60_exceptions.md R330, 10_state.md R51), what an instruction does to the flags and to memory, the rule software must
keep (70_reset_and_hazards.md R357), and the invariant of the machine. -/

namespace Sys2Proof.Machine

/-! ## Sets of instructions -/

/-- The six instructions the source calls privileged (R330). -/
def Privileged (i : Instr) : Prop := i ∈ [.popIP, .reti, .popSU, .pushSU, .setusr, .sures]

/-- The software traps: RST v and SYSCALL (R321). -/
def Trap (i : Instr) : Prop := i = .syscall ∨ ∃ v, i = .rst v

/-- The repeating instructions (R160): the block copies, bare or prefixed, UMA and UMS. -/
def Repeating (i : Instr) : Prop := i = .uma ∨ i = .ums ∨ ∃ op space, i = .copy op space

/-- The control transfers (R139). -/
def Transfer (i : Instr) : Prop :=
  (∃ x mn, i = .ljp x mn) ∨ i ∈ [.ret, .lret, .reti] ∨ (∃ f, i = .retIf f) ∨ Trap i

/-- The forms of an 8-bit operation into A: register, constant, memory operand (R183, R189, R211). -/
def AluForm (op : Alu) (i : Instr) : Prop :=
  (∃ r, i = .aluReg op r) ∨ (∃ n, i = .aluN op n) ∨ ∃ m, i = .aluAt op m

/-- The RES, SET, rotate and shift forms on the register `r` (R264, R268, R271). -/
def RegisterForm (r : Reg8) (i : Instr) : Prop :=
  (∃ op b, i = .bitReg op b r) ∨ ∃ op, i = .rotReg op r

/-- The instructions that store to memory (R61): the LDP stores, the repeating ones, RES, SET, the rotates and shifts
on a memory operand, the pushes, the software traps. -/
def Storing (i : Instr) : Prop :=
  i ∈ [.ldpAtHLHL, .ldpAtIXHL, .ldpAtIYHL, .pushIP, .pushSU, .pushIX, .pushIY] ∨
  (∃ mn, i ∈ [.ldpAtMnHL mn, .ldpAtMnIX mn, .ldpAtMnIY mn]) ∨ (∃ zz, i = .pushPair zz) ∨ Trap i ∨ Repeating i ∨
  (∃ op b m, i = .bitAt op b m) ∨ ∃ op m, i = .rotAt op m

/-- `a` is the logical address of a memory operand in `s`, said apart from the machine's own computation of it: HL, or
IX or IY plus the displacement as a signed number (R72; PRESUMED, log 14), modulo 2^16 (D4, log 13). -/
def AddressOf (s : State) (m : MemArg) (a : Word) : Prop :=
  match m with
  | .hl => a = s.hl
  | .indexed .ix d => (a.toNat : Int) = (s.ix.toNat + d.toInt) % 65536
  | .indexed .iy d => (a.toNat : Int) = (s.iy.toNat + d.toInt) % 65536

/-- `i` is a form of `op` whose operand byte is `y` in `s`: the register's value, the constant, or the byte at the
operand's address (R71, R72; log 13, log 14). -/
def AluOperand (op : Alu) (s : State) (i : Instr) (y : Byte) : Prop :=
  (∃ r, i = .aluReg op r ∧ y = s.getR r) ∨ i = .aluN op y ∨
    ∃ m a, i = .aluAt op m ∧ AddressOf s m a ∧ s.readByte a = some y

/-! ## What happened to the flags and to memory -/

/-- One flag after a write: as the write says where the spec states it, as it says where that is general knowledge
and the table is trusted (R10), and any value otherwise (U9). -/
def FlagWrite.Holds (w : FlagWrite) (trusted old new : Bool) : Prop :=
  match w with
  | .stated v => new = v
  | .believed v => trusted = true → new = v
  | .kept => trusted = true → new = old

/-- The flags byte `f` and the draw count `n` after an instruction that writes `w` in state `s`: each flag as its
write says, and the four bits that hold no flag, F[5], F[4], F[3] and F[1], as they were (R28, R33; PRESUMED, log 6). -/
def FlagsAfter (s : State) (w : FlagWrites) (f : Byte) (n : Nat) : Prop :=
  w.s.Holds s.config.flagTableTrusted (flagS s.f) (flagS f) ∧
  w.z.Holds s.config.flagTableTrusted (flagZ s.f) (flagZ f) ∧
  w.lv.Holds s.config.flagTableTrusted (flagLV s.f) (flagLV f) ∧
  w.c.Holds s.config.flagTableTrusted (flagC s.f) (flagC f) ∧
  f &&& 0x3A#8 = s.f &&& 0x3A#8 ∧
  n = if s.config.flagTableTrusted then s.draws else s.draws + 1

/-- `m'` is `m` with one byte stored. -/
def Stored (m m' : Memory) (p : Addr20) (v : Byte) : Prop :=
  ∀ q, m'.read q = if q = p then some v else m.read q

/-- `m'` is `m` with two bytes stored, `v` at `p` first. -/
def StoredTwo (m m' : Memory) (p : Addr20) (v : Byte) (p' : Addr20) (v' : Byte) : Prop :=
  ∀ q, m'.read q = if q = p' then some v' else if q = p then some v else m.read q

/-! ## The rule software must keep (R355) -/

/-- LJP stays in the XPC window (R357), unless the configuration performs it for any target (U1, log 23). LDP's rule
(R356) is advice about a defined result, which the machine gives. -/
def KeepsLjpRule (i : Instr) (s : State) : Prop :=
  ∀ x mn, i = .ljp x mn → 0xE000#16 ≤ mn ∨ s.config.ljpAnyTarget = true

/-- A step that stops on nothing. -/
def SafeStep (s : State) : Prop := ∃ t, step s = .next t

/-! ## The invariant -/

/-- Memory is in its canonical form, and a part without SU holds zero there: SU "exists only when IS_3000A" (R32;
that the absent register holds its reset value is log 32). -/
def State.Inv (s : State) : Prop :=
  s.mem.wf = true ∧ (s.config.is3000A = false → s.su = 0)

end Sys2Proof.Machine
end

