-- ==== Sys2Proof/Certificates/Slice0/Obligations.lean ====
section
/-! DEFINITION. The statements for the provers. Conventions: a result statement gives the whole next state as an
update of `s`, so what the update does not name is unchanged (R51); its flags byte `f` and draw count `n` are as
`FlagsAfter` says, flag by flag; its memory `m` is given by what reading any byte answers. A statement that rests on a
choice of the model names the log entry (notes/assumptions). -/

open Sys2Proof Sys2Proof.Machine

/-! ## Encoding (30_encoding.md) -/

/-- R91, R98 to R103: decoding the bytes of an instruction of the part gives it back, whatever follows. The prefix
bytes D3 and DB are PRESUMED (log 11), the recovered opcodes PRESUMED (log 26). -/
def Obligations.DecodeInvertsEncode : Prop :=
  ∀ (is3000A : Bool) (i : Instr) (rest : List Byte), i.wellFormed is3000A = true →
    decode is3000A (encode i ++ rest) = .ok (i, rest)

/-- R91, R108: what decodes is the encoding of the instruction it decodes to, and that instruction is one of the
part: no byte string has two readings and none is accepted outside the table. -/
def Obligations.DecodedBytesAreTheEncoding : Prop :=
  ∀ (is3000A : Bool) (bs : List Byte) (i : Instr) (rest : List Byte), decode is3000A bs = .ok (i, rest) →
    bs = encode i ++ rest ∧ i.wellFormed is3000A = true

/-- R104: the length of an instruction is found from its first bytes, on every part alike. -/
def Obligations.LengthFromFirstBytes : Prop :=
  ∀ (is3000A : Bool) (bs : List Byte) (i : Instr) (rest : List Byte), decode is3000A bs = .ok (i, rest) →
    rest = bs.drop (instrLength bs) ∧ (encode i).length = instrLength bs

/-- R93: the register field `r`, in every row R93 lists, and 110 for the memory operand. (RES b,r and SET b,r, whose
opcodes the spec restores, are in BitAndRestartFields.) -/
def Obligations.RegisterField : Prop :=
  ∀ (is3000A : Bool) (rest : List Byte) (r : Reg8) (field : BitVec 3),
    (r, field) ∈ [(.b, 0b000#3), (.c, 0b001#3), (.d, 0b010#3), (.e, 0b011#3), (.h, 0b100#3), (.l, 0b101#3),
      (.a, 0b111#3)] →
    (∀ (op : Alu) (base : BitVec 5), (op, base) ∈ [(.or, 0b10110#5), (.sub, 0b10010#5), (.sbc, 0b10011#5),
        (.xor, 0b10101#5)] →
      decode is3000A ((base ++ field) :: rest) = .ok (.aluReg op r, rest) ∧
      decode is3000A ((base ++ 0b110#3) :: rest) = .ok (.aluAt op .hl, rest)) ∧
    ∀ (op : Rot) (base : BitVec 5), (op, base) ∈ [(.rl, 0b00010#5), (.rlc, 0b00000#5), (.rr, 0b00011#5),
        (.rrc, 0b00001#5), (.sla, 0b00100#5), (.sra, 0b00101#5), (.srl, 0b00111#5)] →
      decode is3000A (0xCB#8 :: (base ++ field) :: rest) = .ok (.rotReg op r, rest) ∧
      decode is3000A (0xCB#8 :: (base ++ 0b110#3) :: rest) = .ok (.rotAt op .hl, rest)

/-- R94: the pair fields `zz` of POP and PUSH and `ss` of SBC HL,ss, in bits [5:4] of the opcode byte. -/
def Obligations.PairFields : Prop :=
  ∀ (is3000A : Bool) (rest : List Byte),
    (∀ (zz : Pair) (field : BitVec 2), (zz, field) ∈ [(.bc, 0b00#2), (.de, 0b01#2), (.hl, 0b10#2), (.af, 0b11#2)] →
      decode is3000A ((0b11#2 ++ field ++ 0b0001#4) :: rest) = .ok (.popPair zz, rest) ∧
      decode is3000A ((0b11#2 ++ field ++ 0b0101#4) :: rest) = .ok (.pushPair zz, rest)) ∧
    ∀ (ss : Ss) (field : BitVec 2), (ss, field) ∈ [(.bc, 0b00#2), (.de, 0b01#2), (.hl, 0b10#2), (.sp, 0b11#2)] →
      decode is3000A (0xED#8 :: (0b01#2 ++ field ++ 0b0010#4) :: rest) = .ok (.sbcHL ss, rest)

/-- R95, R29: the condition field `f` of RET f, in bits [5:3] of the opcode byte, and what makes each condition true. -/
def Obligations.ConditionField : Prop :=
  ∀ (is3000A : Bool) (rest : List Byte) (s : State) (f : Cond) (field : BitVec 3) (truth : Bool),
    (f, field, truth) ∈ [(.nz, 0b000#3, !flagZ s.f), (.z, 0b001#3, flagZ s.f), (.nc, 0b010#3, !flagC s.f),
      (.c, 0b011#3, flagC s.f), (.lz, 0b100#3, !flagLV s.f), (.lo, 0b101#3, flagLV s.f), (.p, 0b110#3, !flagS s.f),
      (.m, 0b111#3, flagS s.f)] →
    decode is3000A ((0b11#2 ++ field ++ 0b000#3) :: rest) = .ok (.retIf f, rest) ∧ s.holds f = truth

/-- R96, R100: the bit number `b` of RES and SET, and the restart number of RST, in bits [5:3] of the last opcode byte;
the register of RES b,r and SET b,r in its bits [2:0], 110 for the memory operand; the three values of RST's field that
are not RST. The opcodes of RES b,r and SET b,r are restored by the spec (R105; PRESUMED, log 26). -/
def Obligations.BitAndRestartFields : Prop :=
  ∀ (is3000A : Bool) (rest : List Byte),
    (∀ b : BitVec 3,
      decode is3000A (0xCB#8 :: (0b10#2 ++ b ++ 0b110#3) :: rest) = .ok (.resAt b.toFin .hl, rest) ∧
      decode is3000A (0xCB#8 :: (0b11#2 ++ b ++ 0b110#3) :: rest) = .ok (.setAt b.toFin .hl, rest) ∧
      ∀ d, decode is3000A (0xDD#8 :: 0xCB#8 :: d :: (0b10#2 ++ b ++ 0b110#3) :: rest) =
          .ok (.resAt b.toFin (.indexed .ix d), rest) ∧
        decode is3000A (0xDD#8 :: 0xCB#8 :: d :: (0b11#2 ++ b ++ 0b110#3) :: rest) =
          .ok (.setAt b.toFin (.indexed .ix d), rest) ∧
        decode is3000A (0xFD#8 :: 0xCB#8 :: d :: (0b10#2 ++ b ++ 0b110#3) :: rest) =
          .ok (.resAt b.toFin (.indexed .iy d), rest) ∧
        decode is3000A (0xFD#8 :: 0xCB#8 :: d :: (0b11#2 ++ b ++ 0b110#3) :: rest) =
          .ok (.setAt b.toFin (.indexed .iy d), rest)) ∧
    (∀ (b : BitVec 3) (r : Reg8) (field : BitVec 3),
      (r, field) ∈ [(.b, 0b000#3), (.c, 0b001#3), (.d, 0b010#3), (.e, 0b011#3), (.h, 0b100#3), (.l, 0b101#3),
        (.a, 0b111#3)] →
      decode is3000A (0xCB#8 :: (0b10#2 ++ b ++ field) :: rest) = .ok (.bitReg .res b.toFin r, rest) ∧
      decode is3000A (0xCB#8 :: (0b11#2 ++ b ++ field) :: rest) = .ok (.bitReg .set b.toFin r, rest)) ∧
    (∀ (v : Restart) (t : BitVec 3),
      (v, t) ∈ [(.v10, 0b010#3), (.v18, 0b011#3), (.v20, 0b100#3), (.v28, 0b101#3), (.v38, 0b111#3)] →
      decode is3000A ((0b11#2 ++ t ++ 0b111#3) :: rest) = .ok (.rst v, rest)) ∧
    (∀ n m x, decode is3000A ((0b11#2 ++ 0b000#3 ++ 0b111#3) :: n :: m :: x :: rest) = .ok (.ljp x (m ++ n), rest)) ∧
    decode is3000A ((0b11#2 ++ 0b001#3 ++ 0b111#3) :: rest) = .error .notInSpec ∧
    decode is3000A ((0b11#2 ++ 0b110#3 ++ 0b111#3) :: rest) = .ok (.mul, rest)

/-- R102: the fourth byte of DD CB d op and FD CB d op, the listed ones and the others. -/
def Obligations.IndexedBitPage : Prop :=
  ∀ (is3000A : Bool) (first : Byte) (i : Index) (d : Byte) (rest : List Byte),
    (first, i) ∈ [(0xDD#8, .ix), (0xFD#8, .iy)] →
    (∀ (o : Rot) (op : Byte), (o, op) ∈ [(.rlc, 0x06#8), (.rrc, 0x0E#8), (.rl, 0x16#8), (.rr, 0x1E#8),
        (.sla, 0x26#8), (.sra, 0x2E#8), (.srl, 0x3E#8)] →
      decode is3000A (first :: 0xCB#8 :: d :: op :: rest) = .ok (.rotAt o (.indexed i d), rest)) ∧
    (∀ b : Fin 8,
      decode is3000A (first :: 0xCB#8 :: d :: BitVec.ofNat 8 (0x86 + 8 * b.val) :: rest) =
        .ok (.resAt b (.indexed i d), rest) ∧
      decode is3000A (first :: 0xCB#8 :: d :: BitVec.ofNat 8 (0xC6 + 8 * b.val) :: rest) =
        .ok (.setAt b (.indexed i d), rest)) ∧
    ∀ op : Byte, op.extractLsb' 0 3 ≠ 0b110#3 ∨ op = 0x36#8 ∨ (0x40#8 ≤ op ∧ op ≤ 0x7F#8) →
      decode is3000A (first :: 0xCB#8 :: d :: op :: rest) = .error .notInSpec

/-- A sanity check: words of the spec's tables (R98 to R103), one or more of each family, decode to the instructions
they stand for. D3 is PRESUMED (log 11); 00 is PRESUMED (log 26). -/
def Obligations.ListedWordsDecode : Prop :=
  ∀ rest : List Byte,
    decode true (0xED#8 :: 0x65#8 :: 0x02#8 :: 0x80#8 :: rest) = .ok (.ldpAtMnHL 0x8002#16, rest) ∧
    decode true (0xC7#8 :: 0x34#8 :: 0xF2#8 :: 0x08#8 :: rest) = .ok (.ljp 0x08#8 0xF234#16, rest) ∧
    decode true (0xD3#8 :: 0xED#8 :: 0xF8#8 :: rest) = .ok (.ioiLsdr, rest) ∧
    decode true (0xDD#8 :: 0x96#8 :: 0xFE#8 :: rest) = .ok (.subAtIXd 0xFE#8, rest) ∧
    decode true (0xEE#8 :: 0x5A#8 :: rest) = .ok (.xorN 0x5A#8, rest) ∧
    decode true (0x00#8 :: rest) = .ok (.nop, rest) ∧
    decode true (0xFD#8 :: 0xE5#8 :: rest) = .ok (.pushIY, rest) ∧
    decode true (0xCB#8 :: 0xBE#8 :: rest) = .ok (.res7AtHL, rest) ∧
    decode true (0xFD#8 :: 0xCB#8 :: 0x01#8 :: 0x2E#8 :: rest) = .ok (.sraAtIYd 0x01#8, rest) ∧
    decode true (0xED#8 :: 0x6F#8 :: rest) = .ok (.setusr, rest)

/-! ## The step -/

/-- A step with no accepted interrupt runs the instruction the bytes at pc decode to, on the state with the hold-off
cleared (R37; PRESUMED, log 19) and the environment's offer of this boundary gone (log 18). -/
def Obligations.StepRunsDecodedInstruction : Prop :=
  ∀ (s : State) (i : Instr) (rest : List Byte), s.acceptedIrq = none →
    decode s.config.is3000A s.fetch = .ok (i, rest) →
    step s = exec i { s with inhibit := false, irqs := s.irqs.tail }

/-- R24, R69: where the bytes of an instruction of the part stand at pc and the addresses after it, modulo 2^16
(log 12), a step with no accepted interrupt runs that instruction, whatever the bytes after them are. -/
def Obligations.StepRunsEncodedInstruction : Prop :=
  ∀ (s : State) (i : Instr), s.acceptedIrq = none → i.wellFormed s.config.is3000A = true →
    (∀ k, k < (encode i).length → s.readByte (s.pc + BitVec.ofNat 16 k) = (encode i)[k]?) →
    step s = exec i { s with inhibit := false, irqs := s.irqs.tail }

/-- R108, U3, D11: four bytes at pc that begin with no instruction of the part are refused by name. -/
def Obligations.StepRefusesUnlistedBytes : Prop :=
  ∀ (s : State) (b0 b1 b2 b3 : Byte), s.acceptedIrq = none →
    s.readByte s.pc = some b0 → s.readByte (s.pc + 1) = some b1 → s.readByte (s.pc + 2) = some b2 →
    s.readByte (s.pc + 3) = some b3 →
    (∀ (i : Instr) (rest : List Byte), i.wellFormed s.config.is3000A = true → [b0, b1, b2, b3] ≠ encode i ++ rest) →
    step s = .refused .notInSpec

/-- R324, R325 (PRESUMED, log 18): an offered interrupt whose priority is above IP[1:0], with no hold-off, is taken:
pc is pushed, the priority is shifted into IP, pc goes to the entry; SU follows SU_ON_TRAP (R11, log 20). -/
def Obligations.AcceptedInterruptEntersHandler : Prop :=
  ∀ (s : State) (priority : BitVec 2) (target : IrqTarget) (entry : Word) (later : List (Option Irq)),
    s.irqs = some ⟨priority, target⟩ :: later → s.inhibit = false → s.ip.extractLsb' 0 2 < priority →
    ((∃ offset, target = .internal offset ∧ entry = s.iir ++ offset) ∨
      (∃ offset, target = .external offset ∧ entry = s.eir ++ offset) ∨ target = .address entry) →
    ∃ m, step s = .next { s with
        mem := m, sp := s.sp - 2, pc := entry, ip := s.ip.extractLsb' 0 6 ++ priority, irqs := later,
        su := if s.config.is3000A ∧ s.config.suOnTrap = .pushSystem then s.su.extractLsb' 0 6 ++ 0b00#2 else s.su } ∧
      StoredTwo s.mem m (s.translate (s.sp - 1)) (s.pc.extractLsb' 8 8) (s.translate (s.sp - 2))
        (s.pc.extractLsb' 0 8)

/-- R37, R330 (PRESUMED, log 19): after a step that runs an instruction, interrupts are held off exactly when that
instruction is one of the six privileged ones. -/
def Obligations.PrivilegedHoldOffInterrupts : Prop :=
  ∀ (s t : State) (i : Instr) (rest : List Byte), s.acceptedIrq = none →
    decode s.config.is3000A s.fetch = .ok (i, rest) → step s = .next t → (t.inhibit = true ↔ Privileged i)

/-- R37, R324: an offer that is held off, or whose priority is not above IP[1:0], changes nothing: the step is that
of a boundary with no offer (PRESUMED, log 18). -/
def Obligations.UnacceptedOfferIsIgnored : Prop :=
  ∀ (s : State) (e : Irq) (later : List (Option Irq)), s.irqs = some e :: later →
    (s.inhibit = true ∨ e.priority ≤ s.ip.extractLsb' 0 2) → step s = step { s with irqs := none :: later }

/-! ## Invariants and the state after reset -/

/-- Every step keeps the invariant: memory in canonical form, no SU on a part without one. -/
def Obligations.StepKeepsInvariant : Prop :=
  ∀ s t : State, s.Inv → step s = .next t → t.Inv

/-- The state after reset meets the invariant. -/
def Obligations.ResetMeetsInvariant : Prop := State.reset.Inv

/-- R350, R351: the state after reset holds the family's defaults (PRESUMED, log 3): pc, xpc, ip, su, iir, inhibit, no
pending interrupt, and a translation that maps every logical address to the same physical one. -/
def Obligations.ResetHoldsFamilyDefaults : Prop :=
  State.reset.pc = 0x0000#16 ∧ State.reset.xpc = 0x00#8 ∧ State.reset.ip = 0xFF#8 ∧ State.reset.su = 0x00#8 ∧
  State.reset.iir = 0x00#8 ∧ State.reset.inhibit = false ∧ State.reset.irqs = [] ∧
  ∀ a : Word, State.reset.translate a = BitVec.setWidth 20 a

/-- R51 (IIR: none), R35, R61, R66: no step changes IIR, EIR, the segment registers or a parameter. -/
def Obligations.StepKeepsBaseRegistersAndParameters : Prop :=
  ∀ s t : State, step s = .next t →
    t.iir = s.iir ∧ t.eir = s.eir ∧ t.segsize = s.segsize ∧ t.stackseg = s.stackseg ∧ t.dataseg = s.dataseg ∧
    t.config = s.config

/-- R66 (PRESUMED, log 2): the segment a logical address is in, and its physical address modulo 2^20. -/
def Obligations.TranslationFollowsSegments : Prop :=
  ∀ (s : State) (a : Word), s.config.translation = .segments →
    (s.translate a).toNat =
      (a.toNat + 4096 *
        (if 0xE ≤ a.toNat / 4096 then s.xpc.toNat
         else if s.segsize.toNat / 16 ≤ a.toNat / 4096 then s.stackseg.toNat
         else if s.segsize.toNat % 16 ≤ a.toNat / 4096 then s.dataseg.toNat
         else 0)) % 2 ^ 20

/-! ## Who writes what (R51) -/

/-- R51: XPC, IP and SU change only by the instructions listed for them, SU by a software trap only under SU_ON_TRAP
(R11, log 20). The hold-off is not in R51's list: that exec changes it by a privileged instruction alone is R37, general
knowledge of the spec (PRESUMED, log 19), and exec never clears it, because the step does. -/
def Obligations.WritersOfControlRegisters : Prop :=
  ∀ (i : Instr) (s t : State), exec i s = .next t →
    (t.xpc = s.xpc ∨ (∃ x mn, i = .ljp x mn) ∨ i = .lret) ∧
    (t.ip = s.ip ∨ i = .popIP ∨ i = .reti) ∧
    (t.su = s.su ∨ i ∈ [.setusr, .sures, .popSU] ∨
      (Trap i ∧ s.config.is3000A = true ∧ s.config.suOnTrap = .pushSystem)) ∧
    (t.inhibit = s.inhibit ∨ Privileged i)

/-- R51: A, B and C, D and E, H and L change only by the instructions listed for them. -/
def Obligations.WritersOfGeneralRegisters : Prop :=
  ∀ (i : Instr) (s t : State), exec i s = .next t →
    (t.a = s.a ∨ (∃ op, AluForm op i) ∨ i ∈ [.neg, .rla, .rlca, .rra, .rrca, .popAF] ∨ RegisterForm .a i) ∧
    (t.b = s.b ∨ i ∈ [.popBC, .mul] ∨ Repeating i ∨ RegisterForm .b i) ∧
    (t.c = s.c ∨ i ∈ [.popBC, .mul] ∨ Repeating i ∨ RegisterForm .c i) ∧
    (t.d = s.d ∨ i ∈ [.popDE, .rlDE, .rrDE] ∨ (∃ op space, i = .copy op space) ∨ RegisterForm .d i) ∧
    (t.e = s.e ∨ i ∈ [.popDE, .rlDE, .rrDE] ∨ (∃ op space, i = .copy op space) ∨ RegisterForm .e i) ∧
    (((t.h = s.h ∨ RegisterForm .h i) ∧ (t.l = s.l ∨ RegisterForm .l i)) ∨
      i ∈ [.popHL, .ldpHLAtHL, .ldpHLAtIX, .ldpHLAtIY, .mul, .orHLDE, .rrHL, .uma, .ums] ∨
      (∃ mn, i = .ldpHLAtMn mn) ∨ (∃ ss, i = .sbcHL ss) ∨
      ∃ op space, op ∈ [.lsdr, .lsir] ∧ i = .copy op space)

/-- R51: DE', IX, IY and SP change only by the instructions listed for them. -/
def Obligations.WritersOfPointers : Prop :=
  ∀ (i : Instr) (s t : State), exec i s = .next t →
    (t.deAlt = s.deAlt ∨ i = .uma ∨ i = .ums) ∧
    (t.ix = s.ix ∨ i ∈ [.popIX, .orIXDE, .rrIX, .uma, .ums] ∨ ∃ mn, i = .ldpIXAtMn mn) ∧
    (t.iy = s.iy ∨ i ∈ [.popIY, .orIYDE, .rrIY, .uma, .ums] ∨ ∃ mn, i = .ldpIYAtMn mn) ∧
    (t.sp = s.sp ∨ (∃ zz, i = .popPair zz ∨ i = .pushPair zz) ∨
      i ∈ [.popIP, .popSU, .popIX, .popIY, .pushIP, .pushSU, .pushIX, .pushIY, .ret, .reti, .lret] ∨
      (∃ f, i = .retIf f ∧ s.holds f = true) ∨ Trap i)

/-- R51, R61: an instruction that is not one of the storing ones leaves every byte of memory as it was. -/
def Obligations.OnlyStoringInstructionsChangeMemory : Prop :=
  ∀ (i : Instr) (s t : State), exec i s = .next t → ¬ Storing i → ∀ q, t.mem.read q = s.mem.read q

/-- In user mode no instruction that answers a next state changes IP or the hold-off, and SU changes only by a software
trap, which pushes system mode onto it under SU_ON_TRAP (R11, log 20). This is the model's choice, no rule of the
source, which does not say what user mode forbids (R331): it rests on the refusal of the privileged instructions there
(D13; DESIGN CHOICE, log 17), on the hold-off being theirs alone (R37; PRESUMED, log 19) and on user mode being SU[0]
(DEDUCED, log 36). -/
def Obligations.UserModeConfinesControlRegisters : Prop :=
  ∀ (i : Instr) (s t : State), s.config.is3000A = true → s.su.getLsbD 0 = true → exec i s = .next t →
    t.ip = s.ip ∧ t.inhibit = s.inhibit ∧
    (Trap i ∧ s.config.suOnTrap = .pushSystem → t.su = s.su.extractLsb' 0 6 ++ 0b00#2) ∧
    (¬ (Trap i ∧ s.config.suOnTrap = .pushSystem) → t.su = s.su)

/-- R331, U6 and R140, U1: the refusals of an instruction, each exactly when the spec says: a privileged instruction
in user mode on a 3000A (log 17), LJP below E000H unless the configuration performs it (log 23). -/
def Obligations.RefusalsAreTheSpecs : Prop :=
  ∀ (i : Instr) (s : State) (r : Refusal), exec i s = .refused r ↔
    (r = .privilegedInUserMode ∧ Privileged i ∧ s.config.is3000A = true ∧ s.su.getLsbD 0 = true) ∨
    (r = .ljpTargetOutsideWindow ∧ s.config.ljpAnyTarget = false ∧ ∃ x mn, i = .ljp x mn ∧ mn < 0xE000#16)

/-- The one fault of the machine is the read of a byte of memory that has no value (U10, log 5): an instruction of the
part that keeps LJP's rule and is not a privileged one in user mode runs, or meets such a byte. -/
def Obligations.StepRunsUnlessMemoryIsUnwritten : Prop :=
  ∀ (s : State) (i : Instr) (rest : List Byte), s.acceptedIrq = none →
    decode s.config.is3000A s.fetch = .ok (i, rest) → ¬ (Privileged i ∧ s.userMode = true) →
    KeepsLjpRule i s →
    SafeStep s ∨ ∃ p, step s = .fault (.unwrittenMemory p) ∧ s.mem.read p = none

/-- R25: every instruction that is no control transfer and does not repeat ends with pc at `next`, and a repeating one
at `next` exactly when it leaves BC zero, at its own first byte otherwise (R160; modulo 2^16: log 12). -/
def Obligations.PcAdvances : Prop :=
  ∀ (i : Instr) (s t : State), exec i s = .next t → ¬ Transfer i →
    (¬ Repeating i ∨ t.bc = 0 → t.pc = s.pc + BitVec.ofNat 16 (encode i).length) ∧
    (Repeating i ∧ t.bc ≠ 0 → t.pc = s.pc)

/-! ## LDP (40_ldp.md) -/

/-- R65, R120 to R126: the six stores complete: low byte at `{A[3:0], a}` first, high byte at `{A[3:0], a + 1}`, with
no carry into the page. No flag is written (PRESUMED, log 7). -/
def Obligations.LdpStores : Prop :=
  ∀ (s : State) (mn : Word) (i : Instr) (a v : Word),
    (i, a, v) ∈ [(.ldpAtHLHL, s.hl, s.hl), (.ldpAtIXHL, s.ix, s.hl), (.ldpAtIYHL, s.iy, s.hl),
      (.ldpAtMnHL mn, mn, s.hl), (.ldpAtMnIX mn, mn, s.ix), (.ldpAtMnIY mn, mn, s.iy)] →
    ∃ m f n, exec i s = .next { s with
        mem := m, f := f, draws := n, pc := s.pc + BitVec.ofNat 16 (encode i).length } ∧
      StoredTwo s.mem m (s.a.extractLsb' 0 4 ++ a) (v.extractLsb' 0 8) (s.a.extractLsb' 0 4 ++ (a + 1))
        (v.extractLsb' 8 8) ∧
      FlagsAfter s noFlags f n

/-- R65, R120, R127 to R132: the six loads complete where their two bytes have values; both addresses are taken from
the registers before (D33, log 28). No flag is written (PRESUMED, log 7). -/
def Obligations.LdpLoads : Prop :=
  ∀ (s : State) (mn a : Word) (lo hi : Byte), s.mem.read (s.a.extractLsb' 0 4 ++ a) = some lo →
    s.mem.read (s.a.extractLsb' 0 4 ++ (a + 1)) = some hi →
    ∃ f n, FlagsAfter s noFlags f n ∧
      (∀ i, (i, a) ∈ [(.ldpHLAtHL, s.hl), (.ldpHLAtIX, s.ix), (.ldpHLAtIY, s.iy), (.ldpHLAtMn mn, mn)] →
        exec i s = .next { s with
          h := hi, l := lo, f := f, draws := n, pc := s.pc + BitVec.ofNat 16 (encode i).length }) ∧
      (a = mn → exec (.ldpIXAtMn mn) s = .next { s with ix := hi ++ lo, f := f, draws := n, pc := s.pc + 4 }) ∧
      (a = mn → exec (.ldpIYAtMn mn) s = .next { s with iy := hi ++ lo, f := f, draws := n, pc := s.pc + 4 })

/-! ## Control transfer (41_control.md) -/

/-- R140: LJP loads XPC and PC, for every target in the window, and for every target if the configuration says so
(U1, log 23). No flag is written (PRESUMED, log 7). -/
def Obligations.LjpLoadsXpcAndPc : Prop :=
  ∀ (s : State) (x : Byte) (mn : Word), 0xE000#16 ≤ mn ∨ s.config.ljpAnyTarget = true →
    ∃ f n, exec (.ljp x mn) s = .next { s with xpc := x, pc := mn, f := f, draws := n } ∧ FlagsAfter s noFlags f n

/-- R141: LRET pops PC, low byte first, then XPC; all three reads are translated under the old XPC. No flag is
written (PRESUMED, log 7). -/
def Obligations.LretPopsPcAndXpc : Prop :=
  ∀ (s : State) (lo hi x : Byte), s.readByte s.sp = some lo → s.readByte (s.sp + 1) = some hi →
    s.readByte (s.sp + 2) = some x →
    ∃ f n, exec .lret s = .next { s with pc := hi ++ lo, xpc := x, sp := s.sp + 3, f := f, draws := n } ∧
      FlagsAfter s noFlags f n

/-- R142, R143, R29: RET, and RET f when its condition is true, pop PC; RET f when it is false only advances pc and
reads no memory. No flag is written (PRESUMED, log 7). -/
def Obligations.RetPopsPc : Prop :=
  ∀ (s : State) (i : Instr) (taken : Bool),
    (i, taken) ∈ [(.ret, true), (.retNZ, !flagZ s.f), (.retZ, flagZ s.f), (.retNC, !flagC s.f), (.retC, flagC s.f),
      (.retLZ, !flagLV s.f), (.retLO, flagLV s.f), (.retP, !flagS s.f), (.retM, flagS s.f)] →
    ∃ f n, FlagsAfter s noFlags f n ∧
      (taken = false → exec i s = .next { s with pc := s.pc + 1, f := f, draws := n }) ∧
      (taken = true → ∀ lo hi, s.readByte s.sp = some lo → s.readByte (s.sp + 1) = some hi →
        exec i s = .next { s with pc := hi ++ lo, sp := s.sp + 2, f := f, draws := n })

/-- R144, R328, R37: RETI, where it is not refused, pops IP and then PC, writes no SU, and holds off interrupts. No
flag is written (PRESUMED, log 7). -/
def Obligations.RetiPopsIpAndPc : Prop :=
  ∀ (s : State) (ip lo hi : Byte), s.userMode = false → s.readByte s.sp = some ip →
    s.readByte (s.sp + 1) = some lo → s.readByte (s.sp + 2) = some hi →
    ∃ f n, exec .reti s = .next { s with
        ip := ip, pc := hi ++ lo, sp := s.sp + 3, inhibit := true, f := f, draws := n } ∧ FlagsAfter s noFlags f n

/-- R145, R146, R321, R322: RST v and SYSCALL push the address of the next instruction, high byte first, and go to
their entry of the table at IIR; SU follows SU_ON_TRAP (R11, log 20), IP is not changed. No flag is written
(PRESUMED, log 7). -/
def Obligations.TrapsEnterTheTable : Prop :=
  ∀ (s : State) (i : Instr) (offset : Byte),
    (i, offset) ∈ [(.rst10, 0x20#8), (.rst18, 0x30#8), (.rst20, 0x40#8), (.rst28, 0x50#8), (.rst38, 0x70#8),
      (.syscall, 0x60#8)] →
    ∀ next : Word, next = s.pc + BitVec.ofNat 16 (encode i).length →
    ∃ m f n, exec i s = .next { s with
        mem := m, sp := s.sp - 2, pc := s.iir ++ offset, f := f, draws := n,
        su := if s.config.is3000A ∧ s.config.suOnTrap = .pushSystem then s.su.extractLsb' 0 6 ++ 0b00#2 else s.su } ∧
      StoredTwo s.mem m (s.translate (s.sp - 1)) (next.extractLsb' 8 8) (s.translate (s.sp - 2))
        (next.extractLsb' 0 8) ∧
      FlagsAfter s noFlags f n

/-- R328: RET returns from RST and SYSCALL: run in the state the trap left, it goes on after the trap with SP as
before it (the two bytes of the frame at two physical places, which the segments always give). -/
def Obligations.RetReturnsFromTrap : Prop :=
  ∀ (s t : State) (i : Instr), Trap i → exec i s = .next t →
    s.config.translation = .segments ∨ s.translate (s.sp - 1) ≠ s.translate (s.sp - 2) →
    ∃ u, exec .ret t = .next u ∧ u.pc = s.pc + BitVec.ofNat 16 (encode i).length ∧ u.sp = s.sp ∧ u.mem = t.mem

/-! ## Repeating instructions (42_block.md) -/

/-- R160, R161, R163 to R166: one iteration of a bare block copy completes where the source byte has a value. pc stays
while the new BC is not zero; L/V is set so (D18, log 21); S, Z and C are kept (PRESUMED, log 7). -/
def Obligations.BlockCopyIteration : Prop :=
  ∀ (s : State) (i : Instr) (stepDE stepHL : Word) (v : Byte),
    (i, stepDE, stepHL) ∈ [(.lsdr, -1, -1), (.lsir, 1, 1), (.lsddr, -1, 0), (.lsidr, 1, 0)] →
    s.readByte s.hl = some v →
    ∃ m f n, exec i s = .next { s with
        mem := m, f := f, draws := n,
        b := (s.bc - 1).extractLsb' 8 8, c := (s.bc - 1).extractLsb' 0 8,
        d := (s.de + stepDE).extractLsb' 8 8, e := (s.de + stepDE).extractLsb' 0 8,
        h := (s.hl + stepHL).extractLsb' 8 8, l := (s.hl + stepHL).extractLsb' 0 8,
        pc := if s.bc = 1 then s.pc + 2 else s.pc } ∧
      Stored s.mem m (s.translate s.de) v ∧
      FlagsAfter s ⟨.kept, .kept, .stated (decide (s.bc ≠ 1)), .kept⟩ f n

/-- R162 to R166, R62, R73: one iteration of a prefixed block copy makes one I/O read: its byte is the environment's next
answer, or, where the environment has given none, the free value of this read, of the prefix's space and of all of HL
(log 10). The store stays in logical memory. L/V is as D18 has it (log 21); S, Z and C are kept (PRESUMED, log 7). -/
def Obligations.PrefixedBlockCopyIteration : Prop :=
  ∀ (s : State) (i : Instr) (space : IoSpace) (stepDE stepHL : Word),
    (i, space, stepDE, stepHL) ∈ [(.ioiLsdr, .internal, -1, -1), (.ioiLsir, .internal, 1, 1),
      (.ioiLsddr, .internal, -1, 0), (.ioiLsidr, .internal, 1, 0), (.ioeLsdr, .external, -1, -1),
      (.ioeLsir, .external, 1, 1), (.ioeLsddr, .external, -1, 0), (.ioeLsidr, .external, 1, 0)] →
    ∃ v m f n, exec i s = .next { s with
        mem := m, f := f, draws := n,
        b := (s.bc - 1).extractLsb' 8 8, c := (s.bc - 1).extractLsb' 0 8,
        d := (s.de + stepDE).extractLsb' 8 8, e := (s.de + stepDE).extractLsb' 0 8,
        h := (s.hl + stepHL).extractLsb' 8 8, l := (s.hl + stepHL).extractLsb' 0 8,
        pc := if s.bc = 1 then s.pc + 3 else s.pc,
        ioAnswers := s.ioAnswers.tail, ioReads := if s.ioAnswers = [] then s.ioReads + 1 else s.ioReads } ∧
      (∀ answer later, s.ioAnswers = answer :: later → v = answer) ∧
      (s.ioAnswers = [] → v = Config.ioByte s.ioReads space s.hl) ∧
      Stored s.mem m (s.translate s.de) v ∧
      FlagsAfter s ⟨.kept, .kept, .stated (decide (s.bc ≠ 1)), .kept⟩ f n

/-- R167, R168: one iteration of UMA completes where its two source bytes have values: `CY:DE':(HL)` becomes
`(IX) + (IY) * DE + DE' + CY`, the pointers step, BC counts. S, Z and L/V are kept (PRESUMED, log 7). -/
def Obligations.UmaIteration : Prop :=
  ∀ (s : State) (x y : Byte), s.readByte s.iy = some y → s.readByte s.ix = some x →
    ∃ v de' cy m f n, exec .uma s = .next { s with
        mem := m, f := f, draws := n, deAlt := de',
        b := (s.bc - 1).extractLsb' 8 8, c := (s.bc - 1).extractLsb' 0 8,
        h := (s.hl + 1).extractLsb' 8 8, l := (s.hl + 1).extractLsb' 0 8,
        ix := s.ix + 1, iy := s.iy + 1, pc := if s.bc = 1 then s.pc + 2 else s.pc } ∧
      v.toNat + 256 * de'.toNat + 2 ^ 24 * cy.toNat =
        x.toNat + (y.toNat * s.de.toNat + s.deAlt.toNat + (flagC s.f).toNat) ∧
      Stored s.mem m (s.translate s.hl) v ∧
      FlagsAfter s ⟨.kept, .kept, .kept, .stated cy⟩ f n

/-- R169, U2: one iteration of UMS completes where its two source bytes have values. The stored byte is the low byte
of the difference under every reading. (DE', CF) is, by the configuration (log 22): the upper 17 bits of the 25-bit
difference (D19), or the upper half of the product sum and the byte's borrow, or any pair. S, Z and L/V are kept
(PRESUMED, log 7). -/
def Obligations.UmsIteration : Prop :=
  ∀ (s : State) (x y : Byte), s.readByte s.iy = some y → s.readByte s.ix = some x →
    ∀ sum : Nat, sum = y.toNat * s.de.toNat + s.deAlt.toNat + (flagC s.f).toNat →
    ∃ v de' cy m f n, exec .ums s = .next { s with
        mem := m, f := f, draws := n, deAlt := de',
        b := (s.bc - 1).extractLsb' 8 8, c := (s.bc - 1).extractLsb' 0 8,
        h := (s.hl + 1).extractLsb' 8 8, l := (s.hl + 1).extractLsb' 0 8,
        ix := s.ix + 1, iy := s.iy + 1, pc := if s.bc = 1 then s.pc + 2 else s.pc } ∧
      (v.toNat : Int) = (x.toNat - sum : Int) % 256 ∧
      (s.config.umsReading = .literal →
        (v.toNat + 256 * de'.toNat + 2 ^ 24 * cy.toNat : Int) = (x.toNat - sum : Int) % 2 ^ 25) ∧
      (s.config.umsReading = .borrowChain → de'.toNat = sum / 256 ∧ (cy = true ↔ x.toNat < sum % 256)) ∧
      Stored s.mem m (s.translate s.hl) v ∧
      FlagsAfter s ⟨.kept, .kept, .kept, .stated cy⟩ f n

/-! ## Arithmetic (43_arith.md) -/

/-- R181: MUL puts the exact signed product of BC and DE in HL:BC, read as one 32-bit integer. No flag is written
(PRESUMED, log 7). -/
def Obligations.MulIsExact : Prop :=
  ∀ s : State, ∃ h l b c f n, exec .mul s = .next { s with
      h := h, l := l, b := b, c := c, f := f, draws := n, pc := s.pc + 1 } ∧
    (h ++ l ++ b ++ c : BitVec 32).toInt = s.bc.toInt * s.de.toInt ∧ FlagsAfter s noFlags f n

/-- R182 to R188, R34: every form of SUB, and NEG, which subtracts A from zero. All four flags are general knowledge
(PRESUMED, log 7). A memory operand is at HL or at IX or IY plus d (R72, D4, D5; log 13, log 14). -/
def Obligations.SubAndNegResult : Prop :=
  ∀ (s : State) (i : Instr) (x y : Byte), (x = s.a ∧ AluOperand .sub s i y) ∨ (i = .neg ∧ x = 0 ∧ y = s.a) →
    ∃ res f n, exec i s = .next { s with
        a := res, f := f, draws := n, pc := s.pc + BitVec.ofNat 16 (encode i).length } ∧
      (res.toNat : Int) = (x.toNat - y.toNat : Int) % 256 ∧
      FlagsAfter s ⟨.believed (res.getLsbD 7), .believed (decide (res = 0)),
        .believed (decide (x.toInt - y.toInt < -128 ∨ 127 < x.toInt - y.toInt)),
        .believed (decide (x.toNat < y.toNat))⟩ f n

/-- R189 to R194, R34: every 8-bit form of SBC. C is the borrow, as the source says; S, Z and L/V are general
knowledge (PRESUMED, log 7). A memory operand is at HL or at IX or IY plus d (R72, D4, D5; log 13, log 14). -/
def Obligations.SbcResult : Prop :=
  ∀ (s : State) (i : Instr) (y : Byte), AluOperand .sbc s i y → ∀ cin : Nat, cin = (flagC s.f).toNat →
    ∃ res f n, exec i s = .next { s with
        a := res, f := f, draws := n, pc := s.pc + BitVec.ofNat 16 (encode i).length } ∧
      (res.toNat : Int) = (s.a.toNat - y.toNat - cin : Int) % 256 ∧
      FlagsAfter s ⟨.believed (res.getLsbD 7), .believed (decide (res = 0)),
        .believed (decide (s.a.toInt - y.toInt - cin < -128 ∨ 127 < s.a.toInt - y.toInt - cin)),
        .stated (decide (s.a.toNat < y.toNat + cin))⟩ f n

/-- R195, R34: SBC HL,ss. C is the borrow of the subtraction from HL (C5; DEDUCED, log 27); S, Z and L/V are general
knowledge (PRESUMED, log 7). -/
def Obligations.SbcHlResult : Prop :=
  ∀ (s : State) (i : Instr) (y : Word),
    (i, y) ∈ [(.sbcHLBC, s.bc), (.sbcHLDE, s.de), (.sbcHLHL, s.hl), (.sbcHLSP, s.sp)] →
    ∀ cin : Nat, cin = (flagC s.f).toNat →
    ∃ (res : Word) (f : Byte) (n : Nat), exec i s = .next { s with
        h := res.extractLsb' 8 8, l := res.extractLsb' 0 8, f := f, draws := n, pc := s.pc + 2 } ∧
      (res.toNat : Int) = (s.hl.toNat - y.toNat - cin : Int) % 65536 ∧
      FlagsAfter s ⟨.believed (res.getLsbD 15), .believed (decide (res = 0)),
        .believed (decide (s.hl.toInt - y.toInt - cin < -32768 ∨ 32767 < s.hl.toInt - y.toInt - cin)),
        .stated (decide (s.hl.toNat < y.toNat + cin))⟩ f n

/-! ## Logic (44_logic.md) -/

/-- R211 to R214, R218 to R224: every 8-bit form of OR and XOR. All four flags are general knowledge (PRESUMED,
log 7). A memory operand is at HL or at IX or IY plus d (R72, D4, D5; log 13, log 14). -/
def Obligations.OrXorResult : Prop :=
  ∀ (s : State) (op : Alu) (i : Instr) (y res : Byte), AluOperand op s i y →
    (op, res) ∈ [(.or, s.a ||| y), (.xor, s.a ^^^ y)] →
    ∃ f n, exec i s = .next { s with
        a := res, f := f, draws := n, pc := s.pc + BitVec.ofNat 16 (encode i).length } ∧
      FlagsAfter s ⟨.believed (res.getLsbD 7), .believed (decide (res = 0)), .believed (decide (16 ≤ res.toNat)),
        .believed false⟩ f n

/-- R215 to R217: OR of DE into HL, IX and IY. All four flags are general knowledge (PRESUMED, log 7). -/
def Obligations.OrDeResult : Prop :=
  ∀ s : State,
    (∃ res f n, res = s.hl ||| s.de ∧ exec .orHLDE s = .next { s with
        h := res.extractLsb' 8 8, l := res.extractLsb' 0 8, f := f, draws := n, pc := s.pc + 1 } ∧
      FlagsAfter s ⟨.believed (res.getLsbD 15), .believed (decide (res = 0)), .believed (decide (4096 ≤ res.toNat)),
        .believed false⟩ f n) ∧
    (∃ res f n, res = s.ix ||| s.de ∧ exec .orIXDE s = .next { s with
        ix := res, f := f, draws := n, pc := s.pc + 2 } ∧
      FlagsAfter s ⟨.believed (res.getLsbD 15), .believed (decide (res = 0)), .believed (decide (4096 ≤ res.toNat)),
        .believed false⟩ f n) ∧
    ∃ res f n, res = s.iy ||| s.de ∧ exec .orIYDE s = .next { s with
        iy := res, f := f, draws := n, pc := s.pc + 2 } ∧
      FlagsAfter s ⟨.believed (res.getLsbD 15), .believed (decide (res = 0)), .believed (decide (4096 ≤ res.toNat)),
        .believed false⟩ f n

/-- R210, R225: NOP only advances pc, SCF sets C besides. The flags not named are kept (PRESUMED, log 7). -/
def Obligations.NopAndScf : Prop :=
  ∀ s : State,
    (∃ f n, exec .nop s = .next { s with f := f, draws := n, pc := s.pc + 1 } ∧ FlagsAfter s noFlags f n) ∧
    ∃ f n, exec .scf s = .next { s with f := f, draws := n, pc := s.pc + 1 } ∧
      FlagsAfter s ⟨.kept, .kept, .kept, .stated true⟩ f n

/-! ## Stack (45_stack.md) -/

/-- R240, R242, R243, R245: the 16-bit pops complete where their two bytes have values, low byte at SP. POP AF loads
A and all eight bits of F (R28); the others write no flag (PRESUMED, log 7). -/
def Obligations.PopWords : Prop :=
  ∀ (s : State) (lo hi : Byte), s.readByte s.sp = some lo → s.readByte (s.sp + 1) = some hi →
    exec .popAF s = .next { s with a := hi, f := lo, sp := s.sp + 2, pc := s.pc + 1 } ∧
    ∃ f n, FlagsAfter s noFlags f n ∧
      exec .popBC s = .next { s with b := hi, c := lo, sp := s.sp + 2, f := f, draws := n, pc := s.pc + 1 } ∧
      exec .popDE s = .next { s with d := hi, e := lo, sp := s.sp + 2, f := f, draws := n, pc := s.pc + 1 } ∧
      exec .popHL s = .next { s with h := hi, l := lo, sp := s.sp + 2, f := f, draws := n, pc := s.pc + 1 } ∧
      exec .popIX s = .next { s with ix := hi ++ lo, sp := s.sp + 2, f := f, draws := n, pc := s.pc + 2 } ∧
      exec .popIY s = .next { s with iy := hi ++ lo, sp := s.sp + 2, f := f, draws := n, pc := s.pc + 2 }

/-- R241, R244, R37: POP IP and POP SU, where they are not refused, load all eight bits of their register and hold off
interrupts. No flag is written (PRESUMED, log 7). -/
def Obligations.PopIpAndSu : Prop :=
  ∀ (s : State) (v : Byte), s.userMode = false → s.readByte s.sp = some v →
    ∃ f n, FlagsAfter s noFlags f n ∧
      exec .popIP s = .next { s with
        ip := v, sp := s.sp + 1, inhibit := true, f := f, draws := n, pc := s.pc + 2 } ∧
      exec .popSU s = .next { s with
        su := v, sp := s.sp + 1, inhibit := true, f := f, draws := n, pc := s.pc + 2 }

/-- R240, R250 to R252: PUSH of BC, DE, HL, IX, IY: high byte at SP - 1 first, low byte at SP - 2. No flag is written
(PRESUMED, log 7). -/
def Obligations.PushWords : Prop :=
  ∀ (s : State) (i : Instr) (hi lo : Byte),
    (i, hi, lo) ∈ [(.pushBC, s.b, s.c), (.pushDE, s.d, s.e), (.pushHL, s.h, s.l),
      (.pushIX, s.ix.extractLsb' 8 8, s.ix.extractLsb' 0 8), (.pushIY, s.iy.extractLsb' 8 8, s.iy.extractLsb' 0 8)] →
    ∃ m f n, exec i s = .next { s with
        mem := m, sp := s.sp - 2, f := f, draws := n, pc := s.pc + BitVec.ofNat 16 (encode i).length } ∧
      StoredTwo s.mem m (s.translate (s.sp - 1)) hi (s.translate (s.sp - 2)) lo ∧ FlagsAfter s noFlags f n

/-- R252, R28, U8: PUSH AF stores A, then a byte with the four flags of F and any value in the four bits that hold no
flag (log 9). That the flags are F[7], F[6], F[2] and F[0], which the masks C5 and 3A say, is D2's (R28; PRESUMED,
log 6). No flag is written (PRESUMED, log 7): in the trusted table F stays as it is. -/
def Obligations.PushAf : Prop :=
  ∀ s : State, ∃ m f n pushed, exec .pushAF s = .next { s with
      mem := m, sp := s.sp - 2, f := f, draws := n, pc := s.pc + 1 } ∧
    pushed &&& 0xC5#8 = s.f &&& 0xC5#8 ∧
    StoredTwo s.mem m (s.translate (s.sp - 1)) s.a (s.translate (s.sp - 2)) pushed ∧
    f &&& 0x3A#8 = s.f &&& 0x3A#8 ∧ (s.config.flagTableTrusted = true → f = s.f)

/-- R249, R253, R37: PUSH IP stores one byte at SP - 1; PUSH SU, where it is not refused, likewise, and it holds off
interrupts. No flag is written (PRESUMED, log 7). -/
def Obligations.PushIpAndSu : Prop :=
  ∀ s : State,
    (∃ m f n, exec .pushIP s = .next { s with mem := m, sp := s.sp - 1, f := f, draws := n, pc := s.pc + 2 } ∧
      Stored s.mem m (s.translate (s.sp - 1)) s.ip ∧ FlagsAfter s noFlags f n) ∧
    (s.userMode = false → ∃ m f n, exec .pushSU s = .next { s with
        mem := m, sp := s.sp - 1, inhibit := true, f := f, draws := n, pc := s.pc + 2 } ∧
      Stored s.mem m (s.translate (s.sp - 1)) s.su ∧ FlagsAfter s noFlags f n)

/-- R252, R245: "PUSH zz then POP ww copies a pair": POP run in the state a PUSH left loads the pushed word and puts
SP back (for BC, DE and HL; the two bytes at two physical places, which the segments always give). -/
def Obligations.PopUndoesPush : Prop :=
  ∀ (s t : State) (zz ww : Pair) (v : Word), (zz, v) ∈ [(.bc, s.bc), (.de, s.de), (.hl, s.hl)] → ww ≠ .af →
    exec (.pushPair zz) s = .next t →
    s.config.translation = .segments ∨ s.translate (s.sp - 1) ≠ s.translate (s.sp - 2) →
    ∃ u, exec (.popPair ww) t = .next u ∧ u.sp = s.sp ∧ u.mem = t.mem ∧
      (ww = .bc → u.bc = v) ∧ (ww = .de → u.de = v) ∧ (ww = .hl → u.hl = v)

/-! ## Bits (46_bit.md) -/

/-- R260, R264, R268: RES and SET of a bit of a register: that bit becomes 0 or 1, the other seven and every other
register stay. No flag is written (PRESUMED, log 7). -/
def Obligations.BitOfRegister : Prop :=
  ∀ (s : State) (op : BitOp) (b : Fin 8) (r : Reg8), ∃ res f n,
    exec (.bitReg op b r) s = .next ({ s with f := f, draws := n, pc := s.pc + 2 }.setR r res) ∧
    (∀ k, k < 8 → res.getLsbD k = if k = b.val then decide (op = .set) else (s.getR r).getLsbD k) ∧
    FlagsAfter s noFlags f n

/-- R260 to R263, R265 to R267: RES and SET of a bit of a memory byte, where the byte has a value: that byte alone is
stored, at the address it was read from, which is HL, or IX or IY plus the signed d (R72, D4, D5; log 13, log 14). No
flag is written (PRESUMED, log 7). -/
def Obligations.BitOfMemory : Prop :=
  ∀ (s : State) (op : BitOp) (b : Fin 8) (a : MemArg) (x : Byte), s.readByte (s.ea a) = some x →
    ∃ res m f n,
      exec (.bitAt op b a) s = .next { s with
        mem := m, f := f, draws := n, pc := s.pc + BitVec.ofNat 16 (encode (.bitAt op b a)).length } ∧
      (∀ k, k < 8 → res.getLsbD k = if k = b.val then decide (op = .set) else x.getLsbD k) ∧
      AddressOf s a (s.ea a) ∧
      Stored s.mem m (s.translate (s.ea a)) res ∧ FlagsAfter s noFlags f n

/-! ## Rotates and shifts (47_rotate_shift.md) -/

/-- R270, R271: the seven operations on a register, with the carry before and the bit shifted out. S, Z and L/V are
general knowledge (PRESUMED, log 7). -/
def Obligations.RotateOfRegister : Prop :=
  ∀ (s : State) (r : Reg8) (op : Rot) (res : Byte) (co : Bool),
    (op, res, co) ∈
      [(.rl, ((s.getR r).extractLsb' 0 7 ++ BitVec.ofBool (flagC s.f) : Byte), (s.getR r).getLsbD 7),
       (.rlc, (s.getR r).rotateLeft 1, (s.getR r).getLsbD 7),
       (.rr, (BitVec.ofBool (flagC s.f) ++ (s.getR r).extractLsb' 1 7 : Byte), (s.getR r).getLsbD 0),
       (.rrc, (s.getR r).rotateRight 1, (s.getR r).getLsbD 0),
       (.sla, s.getR r <<< 1, (s.getR r).getLsbD 7),
       (.sra, (s.getR r).sshiftRight 1, (s.getR r).getLsbD 0),
       (.srl, s.getR r >>> 1, (s.getR r).getLsbD 0)] →
    ∃ f n, exec (.rotReg op r) s = .next ({ s with f := f, draws := n, pc := s.pc + 2 }.setR r res) ∧
      FlagsAfter s ⟨.believed (res.getLsbD 7), .believed (decide (res = 0)), .believed (decide (16 ≤ res.toNat)),
        .stated co⟩ f n

/-- R270 to R272: the seven operations on a memory byte, where it has a value: that byte alone is stored, at the
address it was read from, which is HL, or IX or IY plus the signed d (R72, D4, D5; log 13, log 14). S, Z and L/V are
general knowledge (PRESUMED, log 7). -/
def Obligations.RotateOfMemory : Prop :=
  ∀ (s : State) (a : MemArg) (x : Byte) (op : Rot) (res : Byte) (co : Bool), s.readByte (s.ea a) = some x →
    (op, res, co) ∈
      [(.rl, (x.extractLsb' 0 7 ++ BitVec.ofBool (flagC s.f) : Byte), x.getLsbD 7),
       (.rlc, x.rotateLeft 1, x.getLsbD 7),
       (.rr, (BitVec.ofBool (flagC s.f) ++ x.extractLsb' 1 7 : Byte), x.getLsbD 0),
       (.rrc, x.rotateRight 1, x.getLsbD 0),
       (.sla, x <<< 1, x.getLsbD 7),
       (.sra, x.sshiftRight 1, x.getLsbD 0),
       (.srl, x >>> 1, x.getLsbD 0)] →
    ∃ m f n, exec (.rotAt op a) s = .next { s with
        mem := m, f := f, draws := n, pc := s.pc + BitVec.ofNat 16 (encode (.rotAt op a)).length } ∧
      AddressOf s a (s.ea a) ∧
      Stored s.mem m (s.translate (s.ea a)) res ∧
      FlagsAfter s ⟨.believed (res.getLsbD 7), .believed (decide (res = 0)), .believed (decide (16 ≤ res.toNat)),
        .stated co⟩ f n

/-- R271, R279, R284: the four one-byte forms on A write C alone; S, Z and L/V are kept (PRESUMED, log 7). -/
def Obligations.RotateOfAccumulator : Prop :=
  ∀ (s : State) (i : Instr) (res : Byte) (co : Bool),
    (i, res, co) ∈
      [(.rla, (s.a.extractLsb' 0 7 ++ BitVec.ofBool (flagC s.f) : Byte), s.a.getLsbD 7),
       (.rlca, s.a.rotateLeft 1, s.a.getLsbD 7),
       (.rra, (BitVec.ofBool (flagC s.f) ++ s.a.extractLsb' 1 7 : Byte), s.a.getLsbD 0),
       (.rrca, s.a.rotateRight 1, s.a.getLsbD 0)] →
    ∃ f n, exec i s = .next { s with a := res, f := f, draws := n, pc := s.pc + 1 } ∧
      FlagsAfter s ⟨.kept, .kept, .kept, .stated co⟩ f n

/-- R270, R277: the five 16-bit rotates are 17-bit rotations through C: the result and C, read as one number, are the
operand and the old C so read, rotated by one. S, Z and L/V are general knowledge (PRESUMED, log 7). -/
def Obligations.RotateOfWord : Prop :=
  ∀ (s : State) (cin : Nat), cin = (flagC s.f).toNat →
    (∃ (res : Word) (co : Bool) (f : Byte) (n : Nat), exec .rlDE s = .next { s with
        d := res.extractLsb' 8 8, e := res.extractLsb' 0 8, f := f, draws := n, pc := s.pc + 1 } ∧
      co.toNat * 65536 + res.toNat = 2 * s.de.toNat + cin ∧
      FlagsAfter s ⟨.believed (res.getLsbD 15), .believed (decide (res = 0)), .believed (decide (4096 ≤ res.toNat)),
        .stated co⟩ f n) ∧
    ∀ (i : Instr) (x : Word),
      (i, x) ∈ [(.rrDE, s.de), (.rrHL, s.hl), (.rrIX, s.ix), (.rrIY, s.iy)] →
      ∃ (res : Word) (co : Bool) (f : Byte) (n : Nat),
        (i = .rrDE → exec i s = .next { s with
          d := res.extractLsb' 8 8, e := res.extractLsb' 0 8, f := f, draws := n, pc := s.pc + 1 }) ∧
        (i = .rrHL → exec i s = .next { s with
          h := res.extractLsb' 8 8, l := res.extractLsb' 0 8, f := f, draws := n, pc := s.pc + 1 }) ∧
        (i = .rrIX → exec i s = .next { s with ix := res, f := f, draws := n, pc := s.pc + 2 }) ∧
        (i = .rrIY → exec i s = .next { s with iy := res, f := f, draws := n, pc := s.pc + 2 }) ∧
        2 * res.toNat + co.toNat = cin * 65536 + x.toNat ∧
        FlagsAfter s ⟨.believed (res.getLsbD 15), .believed (decide (res = 0)), .believed (decide (4096 ≤ res.toNat)),
          .stated co⟩ f n

/-! ## System and user mode (48_system.md) -/

/-- R311 to R313, R37: RDMODE copies SU[0] to C; SETUSR, where it is not refused, pushes user mode onto SU and SURES
rotates SU by one mode, and both hold off interrupts. The flags not named are kept (PRESUMED, log 7). -/
def Obligations.ModeInstructions : Prop :=
  ∀ s : State,
    (∃ f n, exec .rdmode s = .next { s with f := f, draws := n, pc := s.pc + 2 } ∧
      FlagsAfter s ⟨.kept, .kept, .kept, .stated (s.su.getLsbD 0)⟩ f n) ∧
    (s.userMode = false → ∃ f n, FlagsAfter s noFlags f n ∧
      exec .setusr s = .next { s with
        su := s.su.extractLsb' 0 6 ++ 0b01#2, inhibit := true, f := f, draws := n, pc := s.pc + 2 } ∧
      exec .sures s = .next { s with su := s.su.rotateRight 2, inhibit := true, f := f, draws := n, pc := s.pc + 2 })
end

