-- ==== Sys2Proof/Laws/Decode.lean ====
section
/-! SUPPORT. What each piece of the decoder accepts, said once, and how the bytes at pc are fetched. -/

namespace Sys2Proof

/-! ## The shared pieces of the decoder -/

theorem byte_eq_ofNat {b : Byte} {n : Nat} (h : b.toNat = n) : b = BitVec.ofNat 8 n := by subst h; simp

/-- A constant of one byte takes the next byte. -/
theorem withByte_ok {f : Byte → Instr} {bs : List Byte} {i : Instr} {rest : List Byte}
    (h : withByte f bs = .ok (i, rest)) : ∃ n, i = f n ∧ bs = n :: rest := by
  unfold withByte at h
  split at h
  · simp only [Except.ok.injEq, Prod.mk.injEq] at h; exact ⟨_, h.1.symm, by rw [h.2]⟩
  · cases h

/-- A constant of two bytes takes the next two, low byte first. -/
theorem withWord_ok {f : Word → Instr} {bs : List Byte} {i : Instr} {rest : List Byte}
    (h : withWord f bs = .ok (i, rest)) : ∃ lo hi, i = f (word hi lo) ∧ bs = lo :: hi :: rest := by
  unfold withWord at h
  split at h
  · simp only [Except.ok.injEq, Prod.mk.injEq] at h; exact ⟨_, _, h.1.symm, by rw [h.2]⟩
  · cases h

/-- An instruction without a constant takes no further byte. -/
theorem done_ok {o : Option Instr} {bs : List Byte} {i : Instr} {rest : List Byte}
    (h : done o bs = .ok (i, rest)) : o = some i ∧ bs = rest := by
  unfold done at h
  split at h
  · simp only [Except.ok.injEq, Prod.mk.injEq] at h; exact ⟨by rw [h.1], h.2⟩
  · cases h

/-- The one-byte page, its bytes read back. -/
theorem decodeOne_encode (b : Byte) (i : Instr) (h : decodeOne b = some i) : encode i = [b] := by
  have all : ∀ b : Byte, (match decodeOne b with | some i => encode i == [b] | none => true) = true := by decide
  have := all b
  rw [h] at this; simpa using this

/-- The CB page, its bytes read back. -/
theorem decodeCB_encode (b : Byte) (i : Instr) (h : decodeCB b = some i) : encode i = [0xCB, b] := by
  have all : ∀ b : Byte, (match decodeCB b with | some i => encode i == [0xCB, b] | none => true) = true := by decide
  have := all b
  rw [h] at this; simpa using this

/-- The block copies, bare and prefixed, their bytes read back. -/
theorem copyOfByte_encode (b : Byte) (c : Copy) (h : copyOfByte b = some c) :
    encode (.copy c none) = [0xED, b] ∧ encode (.copy c (some .internal)) = [0xD3, 0xED, b] ∧
      encode (.copy c (some .external)) = [0xDB, 0xED, b] := by
  have all : ∀ b : Byte, (match copyOfByte b with
    | some c => decide (encode (.copy c none) = [0xED#8, b] ∧ encode (.copy c (some .internal)) = [0xD3#8, 0xED#8, b] ∧
        encode (.copy c (some .external)) = [0xDB#8, 0xED#8, b])
    | none => true) = true := by decide
  have := all b
  rw [h] at this; simpa [and_assoc] using this

/-- No instruction is longer than four bytes. -/
theorem encode_length_le (i : Instr) : (encode i).length ≤ 4 := by cases i <;> simp [encode]

namespace Machine

/-! ## Fetch -/

/-- What is fetched depends on the bytes the logical addresses hold alone. -/
theorem State.fetchFrom_congr (s t : State) (h : ∀ a, t.readByte a = s.readByte a) (n : Nat) (a : Word) :
    t.fetchFrom n a = s.fetchFrom n a := by
  induction n generalizing a with
  | zero => rfl
  | succ n ih => simp only [State.fetchFrom, h, ih]

@[simp] theorem State.beginInstr_fetch (s : State) : s.beginInstr.fetch = s.fetch :=
  State.fetchFrom_congr s s.beginInstr (fun _ => rfl) _ _

/-- Bytes that stand at an address and the ones after it begin what is fetched there. -/
theorem State.fetchFrom_prefix (s : State) (bs : List Byte) (n : Nat) (hn : bs.length ≤ n) (a : Word)
    (h : ∀ k, k < bs.length → s.readByte (a + BitVec.ofNat 16 k) = bs[k]?) :
    ∃ rest, s.fetchFrom n a = bs ++ rest := by
  induction bs generalizing n a with
  | nil => exact ⟨_, rfl⟩
  | cons b bs ih =>
    cases n with
    | zero => simp at hn
    | succ n =>
      have h0 := h 0 (by simp)
      simp only [BitVec.add_zero, List.getElem?_cons_zero] at h0
      obtain ⟨rest, hr⟩ := ih n (by simpa using hn) (a + 1) (fun k hk => by
        have := h (k + 1) (by simpa using hk)
        simp only [List.getElem?_cons_succ] at this
        rw [← this]; congr 1
        apply BitVec.eq_of_toNat_eq; simp; omega)
      exact ⟨rest, by simp only [State.fetchFrom, h0]; rw [hr]; rfl⟩

end Machine

end Sys2Proof
end

