-- ==== Sys2Proof/Laws/State.lean ====
section
/-! SUPPORT. One lemma per field per named update of State, so that no proof unfolds an update. -/

namespace Sys2Proof.Machine

/-! ## State.setBC -/

@[simp] theorem State.setBC_a (s : State) (v : Word) : (s.setBC v).a = s.a := rfl
@[simp] theorem State.setBC_f (s : State) (v : Word) : (s.setBC v).f = s.f := rfl
@[simp] theorem State.setBC_b (s : State) (v : Word) : (s.setBC v).b = hiByte v := rfl
@[simp] theorem State.setBC_c (s : State) (v : Word) : (s.setBC v).c = loByte v := rfl
@[simp] theorem State.setBC_d (s : State) (v : Word) : (s.setBC v).d = s.d := rfl
@[simp] theorem State.setBC_e (s : State) (v : Word) : (s.setBC v).e = s.e := rfl
@[simp] theorem State.setBC_h (s : State) (v : Word) : (s.setBC v).h = s.h := rfl
@[simp] theorem State.setBC_l (s : State) (v : Word) : (s.setBC v).l = s.l := rfl
@[simp] theorem State.setBC_deAlt (s : State) (v : Word) : (s.setBC v).deAlt = s.deAlt := rfl
@[simp] theorem State.setBC_ix (s : State) (v : Word) : (s.setBC v).ix = s.ix := rfl
@[simp] theorem State.setBC_iy (s : State) (v : Word) : (s.setBC v).iy = s.iy := rfl
@[simp] theorem State.setBC_sp (s : State) (v : Word) : (s.setBC v).sp = s.sp := rfl
@[simp] theorem State.setBC_pc (s : State) (v : Word) : (s.setBC v).pc = s.pc := rfl
@[simp] theorem State.setBC_xpc (s : State) (v : Word) : (s.setBC v).xpc = s.xpc := rfl
@[simp] theorem State.setBC_ip (s : State) (v : Word) : (s.setBC v).ip = s.ip := rfl
@[simp] theorem State.setBC_su (s : State) (v : Word) : (s.setBC v).su = s.su := rfl
@[simp] theorem State.setBC_iir (s : State) (v : Word) : (s.setBC v).iir = s.iir := rfl
@[simp] theorem State.setBC_eir (s : State) (v : Word) : (s.setBC v).eir = s.eir := rfl
@[simp] theorem State.setBC_inhibit (s : State) (v : Word) : (s.setBC v).inhibit = s.inhibit := rfl
@[simp] theorem State.setBC_segsize (s : State) (v : Word) : (s.setBC v).segsize = s.segsize := rfl
@[simp] theorem State.setBC_stackseg (s : State) (v : Word) : (s.setBC v).stackseg = s.stackseg := rfl
@[simp] theorem State.setBC_dataseg (s : State) (v : Word) : (s.setBC v).dataseg = s.dataseg := rfl
@[simp] theorem State.setBC_mem (s : State) (v : Word) : (s.setBC v).mem = s.mem := rfl
@[simp] theorem State.setBC_config (s : State) (v : Word) : (s.setBC v).config = s.config := rfl
@[simp] theorem State.setBC_irqs (s : State) (v : Word) : (s.setBC v).irqs = s.irqs := rfl
@[simp] theorem State.setBC_ioAnswers (s : State) (v : Word) : (s.setBC v).ioAnswers = s.ioAnswers := rfl
@[simp] theorem State.setBC_ioReads (s : State) (v : Word) : (s.setBC v).ioReads = s.ioReads := rfl
@[simp] theorem State.setBC_draws (s : State) (v : Word) : (s.setBC v).draws = s.draws := rfl

/-! ## State.setDE -/

@[simp] theorem State.setDE_a (s : State) (v : Word) : (s.setDE v).a = s.a := rfl
@[simp] theorem State.setDE_f (s : State) (v : Word) : (s.setDE v).f = s.f := rfl
@[simp] theorem State.setDE_b (s : State) (v : Word) : (s.setDE v).b = s.b := rfl
@[simp] theorem State.setDE_c (s : State) (v : Word) : (s.setDE v).c = s.c := rfl
@[simp] theorem State.setDE_d (s : State) (v : Word) : (s.setDE v).d = hiByte v := rfl
@[simp] theorem State.setDE_e (s : State) (v : Word) : (s.setDE v).e = loByte v := rfl
@[simp] theorem State.setDE_h (s : State) (v : Word) : (s.setDE v).h = s.h := rfl
@[simp] theorem State.setDE_l (s : State) (v : Word) : (s.setDE v).l = s.l := rfl
@[simp] theorem State.setDE_deAlt (s : State) (v : Word) : (s.setDE v).deAlt = s.deAlt := rfl
@[simp] theorem State.setDE_ix (s : State) (v : Word) : (s.setDE v).ix = s.ix := rfl
@[simp] theorem State.setDE_iy (s : State) (v : Word) : (s.setDE v).iy = s.iy := rfl
@[simp] theorem State.setDE_sp (s : State) (v : Word) : (s.setDE v).sp = s.sp := rfl
@[simp] theorem State.setDE_pc (s : State) (v : Word) : (s.setDE v).pc = s.pc := rfl
@[simp] theorem State.setDE_xpc (s : State) (v : Word) : (s.setDE v).xpc = s.xpc := rfl
@[simp] theorem State.setDE_ip (s : State) (v : Word) : (s.setDE v).ip = s.ip := rfl
@[simp] theorem State.setDE_su (s : State) (v : Word) : (s.setDE v).su = s.su := rfl
@[simp] theorem State.setDE_iir (s : State) (v : Word) : (s.setDE v).iir = s.iir := rfl
@[simp] theorem State.setDE_eir (s : State) (v : Word) : (s.setDE v).eir = s.eir := rfl
@[simp] theorem State.setDE_inhibit (s : State) (v : Word) : (s.setDE v).inhibit = s.inhibit := rfl
@[simp] theorem State.setDE_segsize (s : State) (v : Word) : (s.setDE v).segsize = s.segsize := rfl
@[simp] theorem State.setDE_stackseg (s : State) (v : Word) : (s.setDE v).stackseg = s.stackseg := rfl
@[simp] theorem State.setDE_dataseg (s : State) (v : Word) : (s.setDE v).dataseg = s.dataseg := rfl
@[simp] theorem State.setDE_mem (s : State) (v : Word) : (s.setDE v).mem = s.mem := rfl
@[simp] theorem State.setDE_config (s : State) (v : Word) : (s.setDE v).config = s.config := rfl
@[simp] theorem State.setDE_irqs (s : State) (v : Word) : (s.setDE v).irqs = s.irqs := rfl
@[simp] theorem State.setDE_ioAnswers (s : State) (v : Word) : (s.setDE v).ioAnswers = s.ioAnswers := rfl
@[simp] theorem State.setDE_ioReads (s : State) (v : Word) : (s.setDE v).ioReads = s.ioReads := rfl
@[simp] theorem State.setDE_draws (s : State) (v : Word) : (s.setDE v).draws = s.draws := rfl

/-! ## State.setHL -/

@[simp] theorem State.setHL_a (s : State) (v : Word) : (s.setHL v).a = s.a := rfl
@[simp] theorem State.setHL_f (s : State) (v : Word) : (s.setHL v).f = s.f := rfl
@[simp] theorem State.setHL_b (s : State) (v : Word) : (s.setHL v).b = s.b := rfl
@[simp] theorem State.setHL_c (s : State) (v : Word) : (s.setHL v).c = s.c := rfl
@[simp] theorem State.setHL_d (s : State) (v : Word) : (s.setHL v).d = s.d := rfl
@[simp] theorem State.setHL_e (s : State) (v : Word) : (s.setHL v).e = s.e := rfl
@[simp] theorem State.setHL_h (s : State) (v : Word) : (s.setHL v).h = hiByte v := rfl
@[simp] theorem State.setHL_l (s : State) (v : Word) : (s.setHL v).l = loByte v := rfl
@[simp] theorem State.setHL_deAlt (s : State) (v : Word) : (s.setHL v).deAlt = s.deAlt := rfl
@[simp] theorem State.setHL_ix (s : State) (v : Word) : (s.setHL v).ix = s.ix := rfl
@[simp] theorem State.setHL_iy (s : State) (v : Word) : (s.setHL v).iy = s.iy := rfl
@[simp] theorem State.setHL_sp (s : State) (v : Word) : (s.setHL v).sp = s.sp := rfl
@[simp] theorem State.setHL_pc (s : State) (v : Word) : (s.setHL v).pc = s.pc := rfl
@[simp] theorem State.setHL_xpc (s : State) (v : Word) : (s.setHL v).xpc = s.xpc := rfl
@[simp] theorem State.setHL_ip (s : State) (v : Word) : (s.setHL v).ip = s.ip := rfl
@[simp] theorem State.setHL_su (s : State) (v : Word) : (s.setHL v).su = s.su := rfl
@[simp] theorem State.setHL_iir (s : State) (v : Word) : (s.setHL v).iir = s.iir := rfl
@[simp] theorem State.setHL_eir (s : State) (v : Word) : (s.setHL v).eir = s.eir := rfl
@[simp] theorem State.setHL_inhibit (s : State) (v : Word) : (s.setHL v).inhibit = s.inhibit := rfl
@[simp] theorem State.setHL_segsize (s : State) (v : Word) : (s.setHL v).segsize = s.segsize := rfl
@[simp] theorem State.setHL_stackseg (s : State) (v : Word) : (s.setHL v).stackseg = s.stackseg := rfl
@[simp] theorem State.setHL_dataseg (s : State) (v : Word) : (s.setHL v).dataseg = s.dataseg := rfl
@[simp] theorem State.setHL_mem (s : State) (v : Word) : (s.setHL v).mem = s.mem := rfl
@[simp] theorem State.setHL_config (s : State) (v : Word) : (s.setHL v).config = s.config := rfl
@[simp] theorem State.setHL_irqs (s : State) (v : Word) : (s.setHL v).irqs = s.irqs := rfl
@[simp] theorem State.setHL_ioAnswers (s : State) (v : Word) : (s.setHL v).ioAnswers = s.ioAnswers := rfl
@[simp] theorem State.setHL_ioReads (s : State) (v : Word) : (s.setHL v).ioReads = s.ioReads := rfl
@[simp] theorem State.setHL_draws (s : State) (v : Word) : (s.setHL v).draws = s.draws := rfl

/-! ## State.writePhys -/

@[simp] theorem State.writePhys_a (s : State) (p : Addr20) (v : Byte) : (s.writePhys p v).a = s.a := rfl
@[simp] theorem State.writePhys_f (s : State) (p : Addr20) (v : Byte) : (s.writePhys p v).f = s.f := rfl
@[simp] theorem State.writePhys_b (s : State) (p : Addr20) (v : Byte) : (s.writePhys p v).b = s.b := rfl
@[simp] theorem State.writePhys_c (s : State) (p : Addr20) (v : Byte) : (s.writePhys p v).c = s.c := rfl
@[simp] theorem State.writePhys_d (s : State) (p : Addr20) (v : Byte) : (s.writePhys p v).d = s.d := rfl
@[simp] theorem State.writePhys_e (s : State) (p : Addr20) (v : Byte) : (s.writePhys p v).e = s.e := rfl
@[simp] theorem State.writePhys_h (s : State) (p : Addr20) (v : Byte) : (s.writePhys p v).h = s.h := rfl
@[simp] theorem State.writePhys_l (s : State) (p : Addr20) (v : Byte) : (s.writePhys p v).l = s.l := rfl
@[simp] theorem State.writePhys_deAlt (s : State) (p : Addr20) (v : Byte) : (s.writePhys p v).deAlt = s.deAlt := rfl
@[simp] theorem State.writePhys_ix (s : State) (p : Addr20) (v : Byte) : (s.writePhys p v).ix = s.ix := rfl
@[simp] theorem State.writePhys_iy (s : State) (p : Addr20) (v : Byte) : (s.writePhys p v).iy = s.iy := rfl
@[simp] theorem State.writePhys_sp (s : State) (p : Addr20) (v : Byte) : (s.writePhys p v).sp = s.sp := rfl
@[simp] theorem State.writePhys_pc (s : State) (p : Addr20) (v : Byte) : (s.writePhys p v).pc = s.pc := rfl
@[simp] theorem State.writePhys_xpc (s : State) (p : Addr20) (v : Byte) : (s.writePhys p v).xpc = s.xpc := rfl
@[simp] theorem State.writePhys_ip (s : State) (p : Addr20) (v : Byte) : (s.writePhys p v).ip = s.ip := rfl
@[simp] theorem State.writePhys_su (s : State) (p : Addr20) (v : Byte) : (s.writePhys p v).su = s.su := rfl
@[simp] theorem State.writePhys_iir (s : State) (p : Addr20) (v : Byte) : (s.writePhys p v).iir = s.iir := rfl
@[simp] theorem State.writePhys_eir (s : State) (p : Addr20) (v : Byte) : (s.writePhys p v).eir = s.eir := rfl
@[simp] theorem State.writePhys_inhibit (s : State) (p : Addr20) (v : Byte) :
    (s.writePhys p v).inhibit = s.inhibit := rfl
@[simp] theorem State.writePhys_segsize (s : State) (p : Addr20) (v : Byte) :
    (s.writePhys p v).segsize = s.segsize := rfl
@[simp] theorem State.writePhys_stackseg (s : State) (p : Addr20) (v : Byte) :
    (s.writePhys p v).stackseg = s.stackseg := rfl
@[simp] theorem State.writePhys_dataseg (s : State) (p : Addr20) (v : Byte) :
    (s.writePhys p v).dataseg = s.dataseg := rfl
@[simp] theorem State.writePhys_mem (s : State) (p : Addr20) (v : Byte) :
    (s.writePhys p v).mem = s.mem.write p v := rfl
@[simp] theorem State.writePhys_config (s : State) (p : Addr20) (v : Byte) :
    (s.writePhys p v).config = s.config := rfl
@[simp] theorem State.writePhys_irqs (s : State) (p : Addr20) (v : Byte) : (s.writePhys p v).irqs = s.irqs := rfl
@[simp] theorem State.writePhys_ioAnswers (s : State) (p : Addr20) (v : Byte) :
    (s.writePhys p v).ioAnswers = s.ioAnswers := rfl
@[simp] theorem State.writePhys_ioReads (s : State) (p : Addr20) (v : Byte) :
    (s.writePhys p v).ioReads = s.ioReads := rfl
@[simp] theorem State.writePhys_draws (s : State) (p : Addr20) (v : Byte) : (s.writePhys p v).draws = s.draws := rfl

/-! ## State.store -/

@[simp] theorem State.store_a (s : State) (a : Word) (v : Byte) : (s.store a v).a = s.a := rfl
@[simp] theorem State.store_f (s : State) (a : Word) (v : Byte) : (s.store a v).f = s.f := rfl
@[simp] theorem State.store_b (s : State) (a : Word) (v : Byte) : (s.store a v).b = s.b := rfl
@[simp] theorem State.store_c (s : State) (a : Word) (v : Byte) : (s.store a v).c = s.c := rfl
@[simp] theorem State.store_d (s : State) (a : Word) (v : Byte) : (s.store a v).d = s.d := rfl
@[simp] theorem State.store_e (s : State) (a : Word) (v : Byte) : (s.store a v).e = s.e := rfl
@[simp] theorem State.store_h (s : State) (a : Word) (v : Byte) : (s.store a v).h = s.h := rfl
@[simp] theorem State.store_l (s : State) (a : Word) (v : Byte) : (s.store a v).l = s.l := rfl
@[simp] theorem State.store_deAlt (s : State) (a : Word) (v : Byte) : (s.store a v).deAlt = s.deAlt := rfl
@[simp] theorem State.store_ix (s : State) (a : Word) (v : Byte) : (s.store a v).ix = s.ix := rfl
@[simp] theorem State.store_iy (s : State) (a : Word) (v : Byte) : (s.store a v).iy = s.iy := rfl
@[simp] theorem State.store_sp (s : State) (a : Word) (v : Byte) : (s.store a v).sp = s.sp := rfl
@[simp] theorem State.store_pc (s : State) (a : Word) (v : Byte) : (s.store a v).pc = s.pc := rfl
@[simp] theorem State.store_xpc (s : State) (a : Word) (v : Byte) : (s.store a v).xpc = s.xpc := rfl
@[simp] theorem State.store_ip (s : State) (a : Word) (v : Byte) : (s.store a v).ip = s.ip := rfl
@[simp] theorem State.store_su (s : State) (a : Word) (v : Byte) : (s.store a v).su = s.su := rfl
@[simp] theorem State.store_iir (s : State) (a : Word) (v : Byte) : (s.store a v).iir = s.iir := rfl
@[simp] theorem State.store_eir (s : State) (a : Word) (v : Byte) : (s.store a v).eir = s.eir := rfl
@[simp] theorem State.store_inhibit (s : State) (a : Word) (v : Byte) : (s.store a v).inhibit = s.inhibit := rfl
@[simp] theorem State.store_segsize (s : State) (a : Word) (v : Byte) : (s.store a v).segsize = s.segsize := rfl
@[simp] theorem State.store_stackseg (s : State) (a : Word) (v : Byte) : (s.store a v).stackseg = s.stackseg := rfl
@[simp] theorem State.store_dataseg (s : State) (a : Word) (v : Byte) : (s.store a v).dataseg = s.dataseg := rfl
@[simp] theorem State.store_mem (s : State) (a : Word) (v : Byte) :
    (s.store a v).mem = s.mem.write (s.translate a) v := rfl
@[simp] theorem State.store_config (s : State) (a : Word) (v : Byte) : (s.store a v).config = s.config := rfl
@[simp] theorem State.store_irqs (s : State) (a : Word) (v : Byte) : (s.store a v).irqs = s.irqs := rfl
@[simp] theorem State.store_ioAnswers (s : State) (a : Word) (v : Byte) : (s.store a v).ioAnswers = s.ioAnswers := rfl
@[simp] theorem State.store_ioReads (s : State) (a : Word) (v : Byte) : (s.store a v).ioReads = s.ioReads := rfl
@[simp] theorem State.store_draws (s : State) (a : Word) (v : Byte) : (s.store a v).draws = s.draws := rfl

/-! ## State.storeLdp -/

@[simp] theorem State.storeLdp_a (s : State) (a v : Word) : (s.storeLdp a v).a = s.a := rfl
@[simp] theorem State.storeLdp_f (s : State) (a v : Word) : (s.storeLdp a v).f = s.f := rfl
@[simp] theorem State.storeLdp_b (s : State) (a v : Word) : (s.storeLdp a v).b = s.b := rfl
@[simp] theorem State.storeLdp_c (s : State) (a v : Word) : (s.storeLdp a v).c = s.c := rfl
@[simp] theorem State.storeLdp_d (s : State) (a v : Word) : (s.storeLdp a v).d = s.d := rfl
@[simp] theorem State.storeLdp_e (s : State) (a v : Word) : (s.storeLdp a v).e = s.e := rfl
@[simp] theorem State.storeLdp_h (s : State) (a v : Word) : (s.storeLdp a v).h = s.h := rfl
@[simp] theorem State.storeLdp_l (s : State) (a v : Word) : (s.storeLdp a v).l = s.l := rfl
@[simp] theorem State.storeLdp_deAlt (s : State) (a v : Word) : (s.storeLdp a v).deAlt = s.deAlt := rfl
@[simp] theorem State.storeLdp_ix (s : State) (a v : Word) : (s.storeLdp a v).ix = s.ix := rfl
@[simp] theorem State.storeLdp_iy (s : State) (a v : Word) : (s.storeLdp a v).iy = s.iy := rfl
@[simp] theorem State.storeLdp_sp (s : State) (a v : Word) : (s.storeLdp a v).sp = s.sp := rfl
@[simp] theorem State.storeLdp_pc (s : State) (a v : Word) : (s.storeLdp a v).pc = s.pc := rfl
@[simp] theorem State.storeLdp_xpc (s : State) (a v : Word) : (s.storeLdp a v).xpc = s.xpc := rfl
@[simp] theorem State.storeLdp_ip (s : State) (a v : Word) : (s.storeLdp a v).ip = s.ip := rfl
@[simp] theorem State.storeLdp_su (s : State) (a v : Word) : (s.storeLdp a v).su = s.su := rfl
@[simp] theorem State.storeLdp_iir (s : State) (a v : Word) : (s.storeLdp a v).iir = s.iir := rfl
@[simp] theorem State.storeLdp_eir (s : State) (a v : Word) : (s.storeLdp a v).eir = s.eir := rfl
@[simp] theorem State.storeLdp_inhibit (s : State) (a v : Word) : (s.storeLdp a v).inhibit = s.inhibit := rfl
@[simp] theorem State.storeLdp_segsize (s : State) (a v : Word) : (s.storeLdp a v).segsize = s.segsize := rfl
@[simp] theorem State.storeLdp_stackseg (s : State) (a v : Word) : (s.storeLdp a v).stackseg = s.stackseg := rfl
@[simp] theorem State.storeLdp_dataseg (s : State) (a v : Word) : (s.storeLdp a v).dataseg = s.dataseg := rfl
@[simp] theorem State.storeLdp_mem (s : State) (a v : Word) :
    (s.storeLdp a v).mem = (s.mem.write (s.ldpAddr a) (loByte v)).write (s.ldpAddr (a + 1)) (hiByte v) := rfl
@[simp] theorem State.storeLdp_config (s : State) (a v : Word) : (s.storeLdp a v).config = s.config := rfl
@[simp] theorem State.storeLdp_irqs (s : State) (a v : Word) : (s.storeLdp a v).irqs = s.irqs := rfl
@[simp] theorem State.storeLdp_ioAnswers (s : State) (a v : Word) : (s.storeLdp a v).ioAnswers = s.ioAnswers := rfl
@[simp] theorem State.storeLdp_ioReads (s : State) (a v : Word) : (s.storeLdp a v).ioReads = s.ioReads := rfl
@[simp] theorem State.storeLdp_draws (s : State) (a v : Word) : (s.storeLdp a v).draws = s.draws := rfl

/-! ## State.pushByte -/

@[simp] theorem State.pushByte_a (s : State) (v : Byte) : (s.pushByte v).a = s.a := rfl
@[simp] theorem State.pushByte_f (s : State) (v : Byte) : (s.pushByte v).f = s.f := rfl
@[simp] theorem State.pushByte_b (s : State) (v : Byte) : (s.pushByte v).b = s.b := rfl
@[simp] theorem State.pushByte_c (s : State) (v : Byte) : (s.pushByte v).c = s.c := rfl
@[simp] theorem State.pushByte_d (s : State) (v : Byte) : (s.pushByte v).d = s.d := rfl
@[simp] theorem State.pushByte_e (s : State) (v : Byte) : (s.pushByte v).e = s.e := rfl
@[simp] theorem State.pushByte_h (s : State) (v : Byte) : (s.pushByte v).h = s.h := rfl
@[simp] theorem State.pushByte_l (s : State) (v : Byte) : (s.pushByte v).l = s.l := rfl
@[simp] theorem State.pushByte_deAlt (s : State) (v : Byte) : (s.pushByte v).deAlt = s.deAlt := rfl
@[simp] theorem State.pushByte_ix (s : State) (v : Byte) : (s.pushByte v).ix = s.ix := rfl
@[simp] theorem State.pushByte_iy (s : State) (v : Byte) : (s.pushByte v).iy = s.iy := rfl
@[simp] theorem State.pushByte_sp (s : State) (v : Byte) : (s.pushByte v).sp = s.sp - 1 := rfl
@[simp] theorem State.pushByte_pc (s : State) (v : Byte) : (s.pushByte v).pc = s.pc := rfl
@[simp] theorem State.pushByte_xpc (s : State) (v : Byte) : (s.pushByte v).xpc = s.xpc := rfl
@[simp] theorem State.pushByte_ip (s : State) (v : Byte) : (s.pushByte v).ip = s.ip := rfl
@[simp] theorem State.pushByte_su (s : State) (v : Byte) : (s.pushByte v).su = s.su := rfl
@[simp] theorem State.pushByte_iir (s : State) (v : Byte) : (s.pushByte v).iir = s.iir := rfl
@[simp] theorem State.pushByte_eir (s : State) (v : Byte) : (s.pushByte v).eir = s.eir := rfl
@[simp] theorem State.pushByte_inhibit (s : State) (v : Byte) : (s.pushByte v).inhibit = s.inhibit := rfl
@[simp] theorem State.pushByte_segsize (s : State) (v : Byte) : (s.pushByte v).segsize = s.segsize := rfl
@[simp] theorem State.pushByte_stackseg (s : State) (v : Byte) : (s.pushByte v).stackseg = s.stackseg := rfl
@[simp] theorem State.pushByte_dataseg (s : State) (v : Byte) : (s.pushByte v).dataseg = s.dataseg := rfl
@[simp] theorem State.pushByte_mem (s : State) (v : Byte) :
    (s.pushByte v).mem = s.mem.write (s.translate (s.sp - 1)) v := rfl
@[simp] theorem State.pushByte_config (s : State) (v : Byte) : (s.pushByte v).config = s.config := rfl
@[simp] theorem State.pushByte_irqs (s : State) (v : Byte) : (s.pushByte v).irqs = s.irqs := rfl
@[simp] theorem State.pushByte_ioAnswers (s : State) (v : Byte) : (s.pushByte v).ioAnswers = s.ioAnswers := rfl
@[simp] theorem State.pushByte_ioReads (s : State) (v : Byte) : (s.pushByte v).ioReads = s.ioReads := rfl
@[simp] theorem State.pushByte_draws (s : State) (v : Byte) : (s.pushByte v).draws = s.draws := rfl

/-! ## State.pushWord -/

@[simp] theorem State.pushWord_a (s : State) (v : Word) : (s.pushWord v).a = s.a := rfl
@[simp] theorem State.pushWord_f (s : State) (v : Word) : (s.pushWord v).f = s.f := rfl
@[simp] theorem State.pushWord_b (s : State) (v : Word) : (s.pushWord v).b = s.b := rfl
@[simp] theorem State.pushWord_c (s : State) (v : Word) : (s.pushWord v).c = s.c := rfl
@[simp] theorem State.pushWord_d (s : State) (v : Word) : (s.pushWord v).d = s.d := rfl
@[simp] theorem State.pushWord_e (s : State) (v : Word) : (s.pushWord v).e = s.e := rfl
@[simp] theorem State.pushWord_h (s : State) (v : Word) : (s.pushWord v).h = s.h := rfl
@[simp] theorem State.pushWord_l (s : State) (v : Word) : (s.pushWord v).l = s.l := rfl
@[simp] theorem State.pushWord_deAlt (s : State) (v : Word) : (s.pushWord v).deAlt = s.deAlt := rfl
@[simp] theorem State.pushWord_ix (s : State) (v : Word) : (s.pushWord v).ix = s.ix := rfl
@[simp] theorem State.pushWord_iy (s : State) (v : Word) : (s.pushWord v).iy = s.iy := rfl
@[simp] theorem State.pushWord_sp (s : State) (v : Word) : (s.pushWord v).sp = s.sp - 2 := rfl
@[simp] theorem State.pushWord_pc (s : State) (v : Word) : (s.pushWord v).pc = s.pc := rfl
@[simp] theorem State.pushWord_xpc (s : State) (v : Word) : (s.pushWord v).xpc = s.xpc := rfl
@[simp] theorem State.pushWord_ip (s : State) (v : Word) : (s.pushWord v).ip = s.ip := rfl
@[simp] theorem State.pushWord_su (s : State) (v : Word) : (s.pushWord v).su = s.su := rfl
@[simp] theorem State.pushWord_iir (s : State) (v : Word) : (s.pushWord v).iir = s.iir := rfl
@[simp] theorem State.pushWord_eir (s : State) (v : Word) : (s.pushWord v).eir = s.eir := rfl
@[simp] theorem State.pushWord_inhibit (s : State) (v : Word) : (s.pushWord v).inhibit = s.inhibit := rfl
@[simp] theorem State.pushWord_segsize (s : State) (v : Word) : (s.pushWord v).segsize = s.segsize := rfl
@[simp] theorem State.pushWord_stackseg (s : State) (v : Word) : (s.pushWord v).stackseg = s.stackseg := rfl
@[simp] theorem State.pushWord_dataseg (s : State) (v : Word) : (s.pushWord v).dataseg = s.dataseg := rfl
@[simp] theorem State.pushWord_mem (s : State) (v : Word) :
    (s.pushWord v).mem = (s.mem.write (s.translate (s.sp - 1)) (hiByte v)).write (s.translate (s.sp - 2)) (loByte v) := rfl
@[simp] theorem State.pushWord_config (s : State) (v : Word) : (s.pushWord v).config = s.config := rfl
@[simp] theorem State.pushWord_irqs (s : State) (v : Word) : (s.pushWord v).irqs = s.irqs := rfl
@[simp] theorem State.pushWord_ioAnswers (s : State) (v : Word) : (s.pushWord v).ioAnswers = s.ioAnswers := rfl
@[simp] theorem State.pushWord_ioReads (s : State) (v : Word) : (s.pushWord v).ioReads = s.ioReads := rfl
@[simp] theorem State.pushWord_draws (s : State) (v : Word) : (s.pushWord v).draws = s.draws := rfl

/-! ## State.advance -/

@[simp] theorem State.advance_a (s : State) (len : Word) : (s.advance len).a = s.a := rfl
@[simp] theorem State.advance_f (s : State) (len : Word) : (s.advance len).f = s.f := rfl
@[simp] theorem State.advance_b (s : State) (len : Word) : (s.advance len).b = s.b := rfl
@[simp] theorem State.advance_c (s : State) (len : Word) : (s.advance len).c = s.c := rfl
@[simp] theorem State.advance_d (s : State) (len : Word) : (s.advance len).d = s.d := rfl
@[simp] theorem State.advance_e (s : State) (len : Word) : (s.advance len).e = s.e := rfl
@[simp] theorem State.advance_h (s : State) (len : Word) : (s.advance len).h = s.h := rfl
@[simp] theorem State.advance_l (s : State) (len : Word) : (s.advance len).l = s.l := rfl
@[simp] theorem State.advance_deAlt (s : State) (len : Word) : (s.advance len).deAlt = s.deAlt := rfl
@[simp] theorem State.advance_ix (s : State) (len : Word) : (s.advance len).ix = s.ix := rfl
@[simp] theorem State.advance_iy (s : State) (len : Word) : (s.advance len).iy = s.iy := rfl
@[simp] theorem State.advance_sp (s : State) (len : Word) : (s.advance len).sp = s.sp := rfl
@[simp] theorem State.advance_pc (s : State) (len : Word) : (s.advance len).pc = s.pc + len := rfl
@[simp] theorem State.advance_xpc (s : State) (len : Word) : (s.advance len).xpc = s.xpc := rfl
@[simp] theorem State.advance_ip (s : State) (len : Word) : (s.advance len).ip = s.ip := rfl
@[simp] theorem State.advance_su (s : State) (len : Word) : (s.advance len).su = s.su := rfl
@[simp] theorem State.advance_iir (s : State) (len : Word) : (s.advance len).iir = s.iir := rfl
@[simp] theorem State.advance_eir (s : State) (len : Word) : (s.advance len).eir = s.eir := rfl
@[simp] theorem State.advance_inhibit (s : State) (len : Word) : (s.advance len).inhibit = s.inhibit := rfl
@[simp] theorem State.advance_segsize (s : State) (len : Word) : (s.advance len).segsize = s.segsize := rfl
@[simp] theorem State.advance_stackseg (s : State) (len : Word) : (s.advance len).stackseg = s.stackseg := rfl
@[simp] theorem State.advance_dataseg (s : State) (len : Word) : (s.advance len).dataseg = s.dataseg := rfl
@[simp] theorem State.advance_mem (s : State) (len : Word) : (s.advance len).mem = s.mem := rfl
@[simp] theorem State.advance_config (s : State) (len : Word) : (s.advance len).config = s.config := rfl
@[simp] theorem State.advance_irqs (s : State) (len : Word) : (s.advance len).irqs = s.irqs := rfl
@[simp] theorem State.advance_ioAnswers (s : State) (len : Word) : (s.advance len).ioAnswers = s.ioAnswers := rfl
@[simp] theorem State.advance_ioReads (s : State) (len : Word) : (s.advance len).ioReads = s.ioReads := rfl
@[simp] theorem State.advance_draws (s : State) (len : Word) : (s.advance len).draws = s.draws := rfl

/-! ## State.repeatOrAdvance -/

@[simp] theorem State.repeatOrAdvance_a (s : State) (len : Word) :
    (s.repeatOrAdvance len).a = s.a := by unfold State.repeatOrAdvance; split <;> rfl
@[simp] theorem State.repeatOrAdvance_f (s : State) (len : Word) :
    (s.repeatOrAdvance len).f = s.f := by unfold State.repeatOrAdvance; split <;> rfl
@[simp] theorem State.repeatOrAdvance_b (s : State) (len : Word) :
    (s.repeatOrAdvance len).b = s.b := by unfold State.repeatOrAdvance; split <;> rfl
@[simp] theorem State.repeatOrAdvance_c (s : State) (len : Word) :
    (s.repeatOrAdvance len).c = s.c := by unfold State.repeatOrAdvance; split <;> rfl
@[simp] theorem State.repeatOrAdvance_d (s : State) (len : Word) :
    (s.repeatOrAdvance len).d = s.d := by unfold State.repeatOrAdvance; split <;> rfl
@[simp] theorem State.repeatOrAdvance_e (s : State) (len : Word) :
    (s.repeatOrAdvance len).e = s.e := by unfold State.repeatOrAdvance; split <;> rfl
@[simp] theorem State.repeatOrAdvance_h (s : State) (len : Word) :
    (s.repeatOrAdvance len).h = s.h := by unfold State.repeatOrAdvance; split <;> rfl
@[simp] theorem State.repeatOrAdvance_l (s : State) (len : Word) :
    (s.repeatOrAdvance len).l = s.l := by unfold State.repeatOrAdvance; split <;> rfl
@[simp] theorem State.repeatOrAdvance_deAlt (s : State) (len : Word) :
    (s.repeatOrAdvance len).deAlt = s.deAlt := by unfold State.repeatOrAdvance; split <;> rfl
@[simp] theorem State.repeatOrAdvance_ix (s : State) (len : Word) :
    (s.repeatOrAdvance len).ix = s.ix := by unfold State.repeatOrAdvance; split <;> rfl
@[simp] theorem State.repeatOrAdvance_iy (s : State) (len : Word) :
    (s.repeatOrAdvance len).iy = s.iy := by unfold State.repeatOrAdvance; split <;> rfl
@[simp] theorem State.repeatOrAdvance_sp (s : State) (len : Word) :
    (s.repeatOrAdvance len).sp = s.sp := by unfold State.repeatOrAdvance; split <;> rfl
@[simp] theorem State.repeatOrAdvance_pc (s : State) (len : Word) :
    (s.repeatOrAdvance len).pc = if s.bc = 0 then s.pc + len else s.pc := by unfold State.repeatOrAdvance; split <;> rfl
@[simp] theorem State.repeatOrAdvance_xpc (s : State) (len : Word) :
    (s.repeatOrAdvance len).xpc = s.xpc := by unfold State.repeatOrAdvance; split <;> rfl
@[simp] theorem State.repeatOrAdvance_ip (s : State) (len : Word) :
    (s.repeatOrAdvance len).ip = s.ip := by unfold State.repeatOrAdvance; split <;> rfl
@[simp] theorem State.repeatOrAdvance_su (s : State) (len : Word) :
    (s.repeatOrAdvance len).su = s.su := by unfold State.repeatOrAdvance; split <;> rfl
@[simp] theorem State.repeatOrAdvance_iir (s : State) (len : Word) :
    (s.repeatOrAdvance len).iir = s.iir := by unfold State.repeatOrAdvance; split <;> rfl
@[simp] theorem State.repeatOrAdvance_eir (s : State) (len : Word) :
    (s.repeatOrAdvance len).eir = s.eir := by unfold State.repeatOrAdvance; split <;> rfl
@[simp] theorem State.repeatOrAdvance_inhibit (s : State) (len : Word) :
    (s.repeatOrAdvance len).inhibit = s.inhibit := by unfold State.repeatOrAdvance; split <;> rfl
@[simp] theorem State.repeatOrAdvance_segsize (s : State) (len : Word) :
    (s.repeatOrAdvance len).segsize = s.segsize := by unfold State.repeatOrAdvance; split <;> rfl
@[simp] theorem State.repeatOrAdvance_stackseg (s : State) (len : Word) :
    (s.repeatOrAdvance len).stackseg = s.stackseg := by unfold State.repeatOrAdvance; split <;> rfl
@[simp] theorem State.repeatOrAdvance_dataseg (s : State) (len : Word) :
    (s.repeatOrAdvance len).dataseg = s.dataseg := by unfold State.repeatOrAdvance; split <;> rfl
@[simp] theorem State.repeatOrAdvance_mem (s : State) (len : Word) :
    (s.repeatOrAdvance len).mem = s.mem := by unfold State.repeatOrAdvance; split <;> rfl
@[simp] theorem State.repeatOrAdvance_config (s : State) (len : Word) :
    (s.repeatOrAdvance len).config = s.config := by unfold State.repeatOrAdvance; split <;> rfl
@[simp] theorem State.repeatOrAdvance_irqs (s : State) (len : Word) :
    (s.repeatOrAdvance len).irqs = s.irqs := by unfold State.repeatOrAdvance; split <;> rfl
@[simp] theorem State.repeatOrAdvance_ioAnswers (s : State) (len : Word) :
    (s.repeatOrAdvance len).ioAnswers = s.ioAnswers := by unfold State.repeatOrAdvance; split <;> rfl
@[simp] theorem State.repeatOrAdvance_ioReads (s : State) (len : Word) :
    (s.repeatOrAdvance len).ioReads = s.ioReads := by unfold State.repeatOrAdvance; split <;> rfl
@[simp] theorem State.repeatOrAdvance_draws (s : State) (len : Word) :
    (s.repeatOrAdvance len).draws = s.draws := by unfold State.repeatOrAdvance; split <;> rfl

/-! ## State.beginInstr -/

@[simp] theorem State.beginInstr_a (s : State) : s.beginInstr.a = s.a := rfl
@[simp] theorem State.beginInstr_f (s : State) : s.beginInstr.f = s.f := rfl
@[simp] theorem State.beginInstr_b (s : State) : s.beginInstr.b = s.b := rfl
@[simp] theorem State.beginInstr_c (s : State) : s.beginInstr.c = s.c := rfl
@[simp] theorem State.beginInstr_d (s : State) : s.beginInstr.d = s.d := rfl
@[simp] theorem State.beginInstr_e (s : State) : s.beginInstr.e = s.e := rfl
@[simp] theorem State.beginInstr_h (s : State) : s.beginInstr.h = s.h := rfl
@[simp] theorem State.beginInstr_l (s : State) : s.beginInstr.l = s.l := rfl
@[simp] theorem State.beginInstr_deAlt (s : State) : s.beginInstr.deAlt = s.deAlt := rfl
@[simp] theorem State.beginInstr_ix (s : State) : s.beginInstr.ix = s.ix := rfl
@[simp] theorem State.beginInstr_iy (s : State) : s.beginInstr.iy = s.iy := rfl
@[simp] theorem State.beginInstr_sp (s : State) : s.beginInstr.sp = s.sp := rfl
@[simp] theorem State.beginInstr_pc (s : State) : s.beginInstr.pc = s.pc := rfl
@[simp] theorem State.beginInstr_xpc (s : State) : s.beginInstr.xpc = s.xpc := rfl
@[simp] theorem State.beginInstr_ip (s : State) : s.beginInstr.ip = s.ip := rfl
@[simp] theorem State.beginInstr_su (s : State) : s.beginInstr.su = s.su := rfl
@[simp] theorem State.beginInstr_iir (s : State) : s.beginInstr.iir = s.iir := rfl
@[simp] theorem State.beginInstr_eir (s : State) : s.beginInstr.eir = s.eir := rfl
@[simp] theorem State.beginInstr_inhibit (s : State) : s.beginInstr.inhibit = false := rfl
@[simp] theorem State.beginInstr_segsize (s : State) : s.beginInstr.segsize = s.segsize := rfl
@[simp] theorem State.beginInstr_stackseg (s : State) : s.beginInstr.stackseg = s.stackseg := rfl
@[simp] theorem State.beginInstr_dataseg (s : State) : s.beginInstr.dataseg = s.dataseg := rfl
@[simp] theorem State.beginInstr_mem (s : State) : s.beginInstr.mem = s.mem := rfl
@[simp] theorem State.beginInstr_config (s : State) : s.beginInstr.config = s.config := rfl
@[simp] theorem State.beginInstr_irqs (s : State) : s.beginInstr.irqs = s.irqs.tail := rfl
@[simp] theorem State.beginInstr_ioAnswers (s : State) : s.beginInstr.ioAnswers = s.ioAnswers := rfl
@[simp] theorem State.beginInstr_ioReads (s : State) : s.beginInstr.ioReads = s.ioReads := rfl
@[simp] theorem State.beginInstr_draws (s : State) : s.beginInstr.draws = s.draws := rfl

/-! ## State.pushSystemMode -/

@[simp] theorem State.pushSystemMode_a (s : State) :
    s.pushSystemMode.a = s.a := by unfold State.pushSystemMode; split <;> rfl
@[simp] theorem State.pushSystemMode_f (s : State) :
    s.pushSystemMode.f = s.f := by unfold State.pushSystemMode; split <;> rfl
@[simp] theorem State.pushSystemMode_b (s : State) :
    s.pushSystemMode.b = s.b := by unfold State.pushSystemMode; split <;> rfl
@[simp] theorem State.pushSystemMode_c (s : State) :
    s.pushSystemMode.c = s.c := by unfold State.pushSystemMode; split <;> rfl
@[simp] theorem State.pushSystemMode_d (s : State) :
    s.pushSystemMode.d = s.d := by unfold State.pushSystemMode; split <;> rfl
@[simp] theorem State.pushSystemMode_e (s : State) :
    s.pushSystemMode.e = s.e := by unfold State.pushSystemMode; split <;> rfl
@[simp] theorem State.pushSystemMode_h (s : State) :
    s.pushSystemMode.h = s.h := by unfold State.pushSystemMode; split <;> rfl
@[simp] theorem State.pushSystemMode_l (s : State) :
    s.pushSystemMode.l = s.l := by unfold State.pushSystemMode; split <;> rfl
@[simp] theorem State.pushSystemMode_deAlt (s : State) :
    s.pushSystemMode.deAlt = s.deAlt := by unfold State.pushSystemMode; split <;> rfl
@[simp] theorem State.pushSystemMode_ix (s : State) :
    s.pushSystemMode.ix = s.ix := by unfold State.pushSystemMode; split <;> rfl
@[simp] theorem State.pushSystemMode_iy (s : State) :
    s.pushSystemMode.iy = s.iy := by unfold State.pushSystemMode; split <;> rfl
@[simp] theorem State.pushSystemMode_sp (s : State) :
    s.pushSystemMode.sp = s.sp := by unfold State.pushSystemMode; split <;> rfl
@[simp] theorem State.pushSystemMode_pc (s : State) :
    s.pushSystemMode.pc = s.pc := by unfold State.pushSystemMode; split <;> rfl
@[simp] theorem State.pushSystemMode_xpc (s : State) :
    s.pushSystemMode.xpc = s.xpc := by unfold State.pushSystemMode; split <;> rfl
@[simp] theorem State.pushSystemMode_ip (s : State) :
    s.pushSystemMode.ip = s.ip := by unfold State.pushSystemMode; split <;> rfl
@[simp] theorem State.pushSystemMode_su (s : State) :
    s.pushSystemMode.su = if s.config.is3000A ∧ s.config.suOnTrap = .pushSystem then s.su.extractLsb' 0 6 ++ 0#2 else s.su := by unfold State.pushSystemMode; split <;> rfl
@[simp] theorem State.pushSystemMode_iir (s : State) :
    s.pushSystemMode.iir = s.iir := by unfold State.pushSystemMode; split <;> rfl
@[simp] theorem State.pushSystemMode_eir (s : State) :
    s.pushSystemMode.eir = s.eir := by unfold State.pushSystemMode; split <;> rfl
@[simp] theorem State.pushSystemMode_inhibit (s : State) :
    s.pushSystemMode.inhibit = s.inhibit := by unfold State.pushSystemMode; split <;> rfl
@[simp] theorem State.pushSystemMode_segsize (s : State) :
    s.pushSystemMode.segsize = s.segsize := by unfold State.pushSystemMode; split <;> rfl
@[simp] theorem State.pushSystemMode_stackseg (s : State) :
    s.pushSystemMode.stackseg = s.stackseg := by unfold State.pushSystemMode; split <;> rfl
@[simp] theorem State.pushSystemMode_dataseg (s : State) :
    s.pushSystemMode.dataseg = s.dataseg := by unfold State.pushSystemMode; split <;> rfl
@[simp] theorem State.pushSystemMode_mem (s : State) :
    s.pushSystemMode.mem = s.mem := by unfold State.pushSystemMode; split <;> rfl
@[simp] theorem State.pushSystemMode_config (s : State) :
    s.pushSystemMode.config = s.config := by unfold State.pushSystemMode; split <;> rfl
@[simp] theorem State.pushSystemMode_irqs (s : State) :
    s.pushSystemMode.irqs = s.irqs := by unfold State.pushSystemMode; split <;> rfl
@[simp] theorem State.pushSystemMode_ioAnswers (s : State) :
    s.pushSystemMode.ioAnswers = s.ioAnswers := by unfold State.pushSystemMode; split <;> rfl
@[simp] theorem State.pushSystemMode_ioReads (s : State) :
    s.pushSystemMode.ioReads = s.ioReads := by unfold State.pushSystemMode; split <;> rfl
@[simp] theorem State.pushSystemMode_draws (s : State) :
    s.pushSystemMode.draws = s.draws := by unfold State.pushSystemMode; split <;> rfl

/-! ## State.enterTrap -/

@[simp] theorem State.enterTrap_a (s : State) (ret entry : Word) :
    (s.enterTrap ret entry).a = s.a := by simp [State.enterTrap]
@[simp] theorem State.enterTrap_f (s : State) (ret entry : Word) :
    (s.enterTrap ret entry).f = s.f := by simp [State.enterTrap]
@[simp] theorem State.enterTrap_b (s : State) (ret entry : Word) :
    (s.enterTrap ret entry).b = s.b := by simp [State.enterTrap]
@[simp] theorem State.enterTrap_c (s : State) (ret entry : Word) :
    (s.enterTrap ret entry).c = s.c := by simp [State.enterTrap]
@[simp] theorem State.enterTrap_d (s : State) (ret entry : Word) :
    (s.enterTrap ret entry).d = s.d := by simp [State.enterTrap]
@[simp] theorem State.enterTrap_e (s : State) (ret entry : Word) :
    (s.enterTrap ret entry).e = s.e := by simp [State.enterTrap]
@[simp] theorem State.enterTrap_h (s : State) (ret entry : Word) :
    (s.enterTrap ret entry).h = s.h := by simp [State.enterTrap]
@[simp] theorem State.enterTrap_l (s : State) (ret entry : Word) :
    (s.enterTrap ret entry).l = s.l := by simp [State.enterTrap]
@[simp] theorem State.enterTrap_deAlt (s : State) (ret entry : Word) :
    (s.enterTrap ret entry).deAlt = s.deAlt := by simp [State.enterTrap]
@[simp] theorem State.enterTrap_ix (s : State) (ret entry : Word) :
    (s.enterTrap ret entry).ix = s.ix := by simp [State.enterTrap]
@[simp] theorem State.enterTrap_iy (s : State) (ret entry : Word) :
    (s.enterTrap ret entry).iy = s.iy := by simp [State.enterTrap]
@[simp] theorem State.enterTrap_sp (s : State) (ret entry : Word) :
    (s.enterTrap ret entry).sp = s.sp - 2 := by simp [State.enterTrap]
@[simp] theorem State.enterTrap_pc (s : State) (ret entry : Word) :
    (s.enterTrap ret entry).pc = entry := by simp [State.enterTrap]
@[simp] theorem State.enterTrap_xpc (s : State) (ret entry : Word) :
    (s.enterTrap ret entry).xpc = s.xpc := by simp [State.enterTrap]
@[simp] theorem State.enterTrap_ip (s : State) (ret entry : Word) :
    (s.enterTrap ret entry).ip = s.ip := by simp [State.enterTrap]
@[simp] theorem State.enterTrap_su (s : State) (ret entry : Word) :
    (s.enterTrap ret entry).su = if s.config.is3000A ∧ s.config.suOnTrap = .pushSystem then s.su.extractLsb' 0 6 ++ 0#2 else s.su := State.pushSystemMode_su (s.pushWord ret)
@[simp] theorem State.enterTrap_iir (s : State) (ret entry : Word) :
    (s.enterTrap ret entry).iir = s.iir := by simp [State.enterTrap]
@[simp] theorem State.enterTrap_eir (s : State) (ret entry : Word) :
    (s.enterTrap ret entry).eir = s.eir := by simp [State.enterTrap]
@[simp] theorem State.enterTrap_inhibit (s : State) (ret entry : Word) :
    (s.enterTrap ret entry).inhibit = s.inhibit := by simp [State.enterTrap]
@[simp] theorem State.enterTrap_segsize (s : State) (ret entry : Word) :
    (s.enterTrap ret entry).segsize = s.segsize := by simp [State.enterTrap]
@[simp] theorem State.enterTrap_stackseg (s : State) (ret entry : Word) :
    (s.enterTrap ret entry).stackseg = s.stackseg := by simp [State.enterTrap]
@[simp] theorem State.enterTrap_dataseg (s : State) (ret entry : Word) :
    (s.enterTrap ret entry).dataseg = s.dataseg := by simp [State.enterTrap]
@[simp] theorem State.enterTrap_mem (s : State) (ret entry : Word) :
    (s.enterTrap ret entry).mem = (s.mem.write (s.translate (s.sp - 1)) (hiByte ret)).write (s.translate (s.sp - 2)) (loByte ret) := by simp [State.enterTrap]
@[simp] theorem State.enterTrap_config (s : State) (ret entry : Word) :
    (s.enterTrap ret entry).config = s.config := by simp [State.enterTrap]
@[simp] theorem State.enterTrap_irqs (s : State) (ret entry : Word) :
    (s.enterTrap ret entry).irqs = s.irqs := by simp [State.enterTrap]
@[simp] theorem State.enterTrap_ioAnswers (s : State) (ret entry : Word) :
    (s.enterTrap ret entry).ioAnswers = s.ioAnswers := by simp [State.enterTrap]
@[simp] theorem State.enterTrap_ioReads (s : State) (ret entry : Word) :
    (s.enterTrap ret entry).ioReads = s.ioReads := by simp [State.enterTrap]
@[simp] theorem State.enterTrap_draws (s : State) (ret entry : Word) :
    (s.enterTrap ret entry).draws = s.draws := by simp [State.enterTrap]

/-! ## State.setIndex -/

@[simp] theorem State.setIndex_a (s : State) (i : Index) (v : Word) : (s.setIndex i v).a = s.a := by cases i <;> rfl
@[simp] theorem State.setIndex_f (s : State) (i : Index) (v : Word) : (s.setIndex i v).f = s.f := by cases i <;> rfl
@[simp] theorem State.setIndex_b (s : State) (i : Index) (v : Word) : (s.setIndex i v).b = s.b := by cases i <;> rfl
@[simp] theorem State.setIndex_c (s : State) (i : Index) (v : Word) : (s.setIndex i v).c = s.c := by cases i <;> rfl
@[simp] theorem State.setIndex_d (s : State) (i : Index) (v : Word) : (s.setIndex i v).d = s.d := by cases i <;> rfl
@[simp] theorem State.setIndex_e (s : State) (i : Index) (v : Word) : (s.setIndex i v).e = s.e := by cases i <;> rfl
@[simp] theorem State.setIndex_h (s : State) (i : Index) (v : Word) : (s.setIndex i v).h = s.h := by cases i <;> rfl
@[simp] theorem State.setIndex_l (s : State) (i : Index) (v : Word) : (s.setIndex i v).l = s.l := by cases i <;> rfl
@[simp] theorem State.setIndex_deAlt (s : State) (i : Index) (v : Word) :
    (s.setIndex i v).deAlt = s.deAlt := by cases i <;> rfl
@[simp] theorem State.setIndex_ix (s : State) (i : Index) (v : Word) :
    (s.setIndex i v).ix = if i = .ix then v else s.ix := by cases i <;> rfl
@[simp] theorem State.setIndex_iy (s : State) (i : Index) (v : Word) :
    (s.setIndex i v).iy = if i = .iy then v else s.iy := by cases i <;> rfl
@[simp] theorem State.setIndex_sp (s : State) (i : Index) (v : Word) :
    (s.setIndex i v).sp = s.sp := by cases i <;> rfl
@[simp] theorem State.setIndex_pc (s : State) (i : Index) (v : Word) :
    (s.setIndex i v).pc = s.pc := by cases i <;> rfl
@[simp] theorem State.setIndex_xpc (s : State) (i : Index) (v : Word) :
    (s.setIndex i v).xpc = s.xpc := by cases i <;> rfl
@[simp] theorem State.setIndex_ip (s : State) (i : Index) (v : Word) :
    (s.setIndex i v).ip = s.ip := by cases i <;> rfl
@[simp] theorem State.setIndex_su (s : State) (i : Index) (v : Word) :
    (s.setIndex i v).su = s.su := by cases i <;> rfl
@[simp] theorem State.setIndex_iir (s : State) (i : Index) (v : Word) :
    (s.setIndex i v).iir = s.iir := by cases i <;> rfl
@[simp] theorem State.setIndex_eir (s : State) (i : Index) (v : Word) :
    (s.setIndex i v).eir = s.eir := by cases i <;> rfl
@[simp] theorem State.setIndex_inhibit (s : State) (i : Index) (v : Word) :
    (s.setIndex i v).inhibit = s.inhibit := by cases i <;> rfl
@[simp] theorem State.setIndex_segsize (s : State) (i : Index) (v : Word) :
    (s.setIndex i v).segsize = s.segsize := by cases i <;> rfl
@[simp] theorem State.setIndex_stackseg (s : State) (i : Index) (v : Word) :
    (s.setIndex i v).stackseg = s.stackseg := by cases i <;> rfl
@[simp] theorem State.setIndex_dataseg (s : State) (i : Index) (v : Word) :
    (s.setIndex i v).dataseg = s.dataseg := by cases i <;> rfl
@[simp] theorem State.setIndex_mem (s : State) (i : Index) (v : Word) :
    (s.setIndex i v).mem = s.mem := by cases i <;> rfl
@[simp] theorem State.setIndex_config (s : State) (i : Index) (v : Word) :
    (s.setIndex i v).config = s.config := by cases i <;> rfl
@[simp] theorem State.setIndex_irqs (s : State) (i : Index) (v : Word) :
    (s.setIndex i v).irqs = s.irqs := by cases i <;> rfl
@[simp] theorem State.setIndex_ioAnswers (s : State) (i : Index) (v : Word) :
    (s.setIndex i v).ioAnswers = s.ioAnswers := by cases i <;> rfl
@[simp] theorem State.setIndex_ioReads (s : State) (i : Index) (v : Word) :
    (s.setIndex i v).ioReads = s.ioReads := by cases i <;> rfl
@[simp] theorem State.setIndex_draws (s : State) (i : Index) (v : Word) :
    (s.setIndex i v).draws = s.draws := by cases i <;> rfl

/-! ## State.setR -/

@[simp] theorem State.setR_a (s : State) (r : Reg8) (v : Byte) :
    (s.setR r v).a = if r = .a then v else s.a := by cases r <;> rfl
@[simp] theorem State.setR_f (s : State) (r : Reg8) (v : Byte) : (s.setR r v).f = s.f := by cases r <;> rfl
@[simp] theorem State.setR_b (s : State) (r : Reg8) (v : Byte) :
    (s.setR r v).b = if r = .b then v else s.b := by cases r <;> rfl
@[simp] theorem State.setR_c (s : State) (r : Reg8) (v : Byte) :
    (s.setR r v).c = if r = .c then v else s.c := by cases r <;> rfl
@[simp] theorem State.setR_d (s : State) (r : Reg8) (v : Byte) :
    (s.setR r v).d = if r = .d then v else s.d := by cases r <;> rfl
@[simp] theorem State.setR_e (s : State) (r : Reg8) (v : Byte) :
    (s.setR r v).e = if r = .e then v else s.e := by cases r <;> rfl
@[simp] theorem State.setR_h (s : State) (r : Reg8) (v : Byte) :
    (s.setR r v).h = if r = .h then v else s.h := by cases r <;> rfl
@[simp] theorem State.setR_l (s : State) (r : Reg8) (v : Byte) :
    (s.setR r v).l = if r = .l then v else s.l := by cases r <;> rfl
@[simp] theorem State.setR_deAlt (s : State) (r : Reg8) (v : Byte) :
    (s.setR r v).deAlt = s.deAlt := by cases r <;> rfl
@[simp] theorem State.setR_ix (s : State) (r : Reg8) (v : Byte) : (s.setR r v).ix = s.ix := by cases r <;> rfl
@[simp] theorem State.setR_iy (s : State) (r : Reg8) (v : Byte) : (s.setR r v).iy = s.iy := by cases r <;> rfl
@[simp] theorem State.setR_sp (s : State) (r : Reg8) (v : Byte) : (s.setR r v).sp = s.sp := by cases r <;> rfl
@[simp] theorem State.setR_pc (s : State) (r : Reg8) (v : Byte) : (s.setR r v).pc = s.pc := by cases r <;> rfl
@[simp] theorem State.setR_xpc (s : State) (r : Reg8) (v : Byte) : (s.setR r v).xpc = s.xpc := by cases r <;> rfl
@[simp] theorem State.setR_ip (s : State) (r : Reg8) (v : Byte) : (s.setR r v).ip = s.ip := by cases r <;> rfl
@[simp] theorem State.setR_su (s : State) (r : Reg8) (v : Byte) : (s.setR r v).su = s.su := by cases r <;> rfl
@[simp] theorem State.setR_iir (s : State) (r : Reg8) (v : Byte) : (s.setR r v).iir = s.iir := by cases r <;> rfl
@[simp] theorem State.setR_eir (s : State) (r : Reg8) (v : Byte) : (s.setR r v).eir = s.eir := by cases r <;> rfl
@[simp] theorem State.setR_inhibit (s : State) (r : Reg8) (v : Byte) :
    (s.setR r v).inhibit = s.inhibit := by cases r <;> rfl
@[simp] theorem State.setR_segsize (s : State) (r : Reg8) (v : Byte) :
    (s.setR r v).segsize = s.segsize := by cases r <;> rfl
@[simp] theorem State.setR_stackseg (s : State) (r : Reg8) (v : Byte) :
    (s.setR r v).stackseg = s.stackseg := by cases r <;> rfl
@[simp] theorem State.setR_dataseg (s : State) (r : Reg8) (v : Byte) :
    (s.setR r v).dataseg = s.dataseg := by cases r <;> rfl
@[simp] theorem State.setR_mem (s : State) (r : Reg8) (v : Byte) : (s.setR r v).mem = s.mem := by cases r <;> rfl
@[simp] theorem State.setR_config (s : State) (r : Reg8) (v : Byte) :
    (s.setR r v).config = s.config := by cases r <;> rfl
@[simp] theorem State.setR_irqs (s : State) (r : Reg8) (v : Byte) : (s.setR r v).irqs = s.irqs := by cases r <;> rfl
@[simp] theorem State.setR_ioAnswers (s : State) (r : Reg8) (v : Byte) :
    (s.setR r v).ioAnswers = s.ioAnswers := by cases r <;> rfl
@[simp] theorem State.setR_ioReads (s : State) (r : Reg8) (v : Byte) :
    (s.setR r v).ioReads = s.ioReads := by cases r <;> rfl
@[simp] theorem State.setR_draws (s : State) (r : Reg8) (v : Byte) :
    (s.setR r v).draws = s.draws := by cases r <;> rfl

/-! ## State.putFlags -/

@[simp] theorem State.putFlags_a (s : State) (w : FlagWrites) :
    (s.putFlags w).a = s.a := by unfold State.putFlags; split <;> simp_all
@[simp] theorem State.putFlags_f (s : State) (w : FlagWrites) :
    (s.putFlags w).f = w.apply s.config.flagTableTrusted s.f (if s.config.flagTableTrusted then 0 else Config.draw s.draws) := by unfold State.putFlags; split <;> simp_all
@[simp] theorem State.putFlags_b (s : State) (w : FlagWrites) :
    (s.putFlags w).b = s.b := by unfold State.putFlags; split <;> simp_all
@[simp] theorem State.putFlags_c (s : State) (w : FlagWrites) :
    (s.putFlags w).c = s.c := by unfold State.putFlags; split <;> simp_all
@[simp] theorem State.putFlags_d (s : State) (w : FlagWrites) :
    (s.putFlags w).d = s.d := by unfold State.putFlags; split <;> simp_all
@[simp] theorem State.putFlags_e (s : State) (w : FlagWrites) :
    (s.putFlags w).e = s.e := by unfold State.putFlags; split <;> simp_all
@[simp] theorem State.putFlags_h (s : State) (w : FlagWrites) :
    (s.putFlags w).h = s.h := by unfold State.putFlags; split <;> simp_all
@[simp] theorem State.putFlags_l (s : State) (w : FlagWrites) :
    (s.putFlags w).l = s.l := by unfold State.putFlags; split <;> simp_all
@[simp] theorem State.putFlags_deAlt (s : State) (w : FlagWrites) :
    (s.putFlags w).deAlt = s.deAlt := by unfold State.putFlags; split <;> simp_all
@[simp] theorem State.putFlags_ix (s : State) (w : FlagWrites) :
    (s.putFlags w).ix = s.ix := by unfold State.putFlags; split <;> simp_all
@[simp] theorem State.putFlags_iy (s : State) (w : FlagWrites) :
    (s.putFlags w).iy = s.iy := by unfold State.putFlags; split <;> simp_all
@[simp] theorem State.putFlags_sp (s : State) (w : FlagWrites) :
    (s.putFlags w).sp = s.sp := by unfold State.putFlags; split <;> simp_all
@[simp] theorem State.putFlags_pc (s : State) (w : FlagWrites) :
    (s.putFlags w).pc = s.pc := by unfold State.putFlags; split <;> simp_all
@[simp] theorem State.putFlags_xpc (s : State) (w : FlagWrites) :
    (s.putFlags w).xpc = s.xpc := by unfold State.putFlags; split <;> simp_all
@[simp] theorem State.putFlags_ip (s : State) (w : FlagWrites) :
    (s.putFlags w).ip = s.ip := by unfold State.putFlags; split <;> simp_all
@[simp] theorem State.putFlags_su (s : State) (w : FlagWrites) :
    (s.putFlags w).su = s.su := by unfold State.putFlags; split <;> simp_all
@[simp] theorem State.putFlags_iir (s : State) (w : FlagWrites) :
    (s.putFlags w).iir = s.iir := by unfold State.putFlags; split <;> simp_all
@[simp] theorem State.putFlags_eir (s : State) (w : FlagWrites) :
    (s.putFlags w).eir = s.eir := by unfold State.putFlags; split <;> simp_all
@[simp] theorem State.putFlags_inhibit (s : State) (w : FlagWrites) :
    (s.putFlags w).inhibit = s.inhibit := by unfold State.putFlags; split <;> simp_all
@[simp] theorem State.putFlags_segsize (s : State) (w : FlagWrites) :
    (s.putFlags w).segsize = s.segsize := by unfold State.putFlags; split <;> simp_all
@[simp] theorem State.putFlags_stackseg (s : State) (w : FlagWrites) :
    (s.putFlags w).stackseg = s.stackseg := by unfold State.putFlags; split <;> simp_all
@[simp] theorem State.putFlags_dataseg (s : State) (w : FlagWrites) :
    (s.putFlags w).dataseg = s.dataseg := by unfold State.putFlags; split <;> simp_all
@[simp] theorem State.putFlags_mem (s : State) (w : FlagWrites) :
    (s.putFlags w).mem = s.mem := by unfold State.putFlags; split <;> simp_all
@[simp] theorem State.putFlags_config (s : State) (w : FlagWrites) :
    (s.putFlags w).config = s.config := by unfold State.putFlags; split <;> simp_all
@[simp] theorem State.putFlags_irqs (s : State) (w : FlagWrites) :
    (s.putFlags w).irqs = s.irqs := by unfold State.putFlags; split <;> simp_all
@[simp] theorem State.putFlags_ioAnswers (s : State) (w : FlagWrites) :
    (s.putFlags w).ioAnswers = s.ioAnswers := by unfold State.putFlags; split <;> simp_all
@[simp] theorem State.putFlags_ioReads (s : State) (w : FlagWrites) :
    (s.putFlags w).ioReads = s.ioReads := by unfold State.putFlags; split <;> simp_all
@[simp] theorem State.putFlags_draws (s : State) (w : FlagWrites) :
    (s.putFlags w).draws = if s.config.flagTableTrusted then s.draws else s.draws + 1 := by unfold State.putFlags; split <;> simp_all

end Sys2Proof.Machine
end

