-- ==== Sys2Proof/Laws/Flags.lean ====
section
/-! SUPPORT. What the flag writes of an instruction do, said once: `State.putFlags_eq` and `State.putFlags_after`. -/

namespace Sys2Proof.Machine

@[simp] theorem flagS_packFlags (f : Byte) (s z lv c : Bool) : flagS (packFlags f s z lv c) = s := by
  unfold packFlags; generalize f.extractLsb' 3 3 = x; generalize f.extractLsb' 1 1 = y; revert x y s z lv c; decide

@[simp] theorem flagZ_packFlags (f : Byte) (s z lv c : Bool) : flagZ (packFlags f s z lv c) = z := by
  unfold packFlags; generalize f.extractLsb' 3 3 = x; generalize f.extractLsb' 1 1 = y; revert x y s z lv c; decide

@[simp] theorem flagLV_packFlags (f : Byte) (s z lv c : Bool) : flagLV (packFlags f s z lv c) = lv := by
  unfold packFlags; generalize f.extractLsb' 3 3 = x; generalize f.extractLsb' 1 1 = y; revert x y s z lv c; decide

@[simp] theorem flagC_packFlags (f : Byte) (s z lv c : Bool) : flagC (packFlags f s z lv c) = c := by
  unfold packFlags; generalize f.extractLsb' 3 3 = x; generalize f.extractLsb' 1 1 = y; revert x y s z lv c; decide

/-- Packing flags into a byte leaves its other four bits. -/
theorem packFlags_spare (f : Byte) (s z lv c : Bool) : packFlags f s z lv c &&& 0x3A#8 = f &&& 0x3A#8 := by
  have h : ∀ f : Byte, f &&& 0x3A#8 = 0#2 ++ f.extractLsb' 3 3 ++ 0#1 ++ f.extractLsb' 1 1 ++ 0#1 := by decide
  rw [h f]; unfold packFlags
  generalize f.extractLsb' 3 3 = x; generalize f.extractLsb' 1 1 = y; revert x y s z lv c; decide

/-- A flags byte packed with its own flags is itself. -/
@[simp] theorem packFlags_self (f : Byte) : packFlags f (flagS f) (flagZ f) (flagLV f) (flagC f) = f := by
  revert f; decide

/-- A mixed byte has the flags of its first part. -/
theorem mixFlags_flags (f u : Byte) : mixFlags f u &&& 0xC5#8 = f &&& 0xC5#8 := by
  have h : ∀ f : Byte, f &&& 0xC5#8 = packFlags 0 (flagS f) (flagZ f) (flagLV f) (flagC f) := by decide
  rw [h f]; unfold mixFlags packFlags
  generalize flagS f = s; generalize flagZ f = z; generalize flagLV f = lv; generalize flagC f = c
  generalize u.extractLsb' 3 3 = x; generalize u.extractLsb' 1 1 = y; revert x y s z lv c; decide

/-- A flag after a write is as the write says. -/
theorem FlagWrite.value_holds (w : FlagWrite) (trusted old drawn : Bool) :
    w.Holds trusted old (w.value trusted old drawn) := by
  cases w <;> simp +contextual [FlagWrite.Holds, FlagWrite.value]

/-- The flag writes change F and the draw count alone. -/
theorem State.putFlags_eq (s : State) (w : FlagWrites) :
    s.putFlags w = { s with f := (s.putFlags w).f, draws := (s.putFlags w).draws } := by
  unfold State.putFlags; split <;> rfl

/-- What the flag writes do to F and the draw count. -/
theorem State.putFlags_after (s : State) (w : FlagWrites) :
    FlagsAfter s w (s.putFlags w).f (s.putFlags w).draws := by
  simp only [FlagsAfter, State.putFlags_f, State.putFlags_draws, FlagWrites.apply, flagS_packFlags, flagZ_packFlags,
    flagLV_packFlags, flagC_packFlags]
  exact ⟨w.s.value_holds .., w.z.value_holds .., w.lv.value_holds .., w.c.value_holds .., packFlags_spare .., trivial⟩

/-- The outcome of the flag writes depends on F, the draw count and the trust in the table alone. -/
theorem State.putFlags_congr (s t : State) (w : FlagWrites) (hf : t.f = s.f) (hd : t.draws = s.draws)
    (hc : t.config = s.config) : (t.putFlags w).f = (s.putFlags w).f ∧ (t.putFlags w).draws = (s.putFlags w).draws := by
  simp [hf, hd, hc]

end Sys2Proof.Machine
end

