-- ==== Sys2Proof/Laws/Memory.lean ====
section
/-! SUPPORT. The laws of memory: what a read after a write gives, and that a write keeps the canonical form. -/

namespace Sys2Proof.Machine

/-- Reading any byte after a write. -/
theorem Memory.read_write (m : Memory) (p q : Addr20) (v : Byte) :
    (m.write p v).read q = if q = p then some v else m.read q := by
  induction m with
  | nil =>
    by_cases h : q = p
    · simp [Memory.write, Memory.read, h]
    · have : ¬ p.toNat = q.toNat := fun e => h (BitVec.eq_of_toNat_eq e.symm)
      simp [Memory.write, Memory.read, h, this]
  | cons c m ih =>
    obtain ⟨k, w⟩ := c
    by_cases h : q = p
    · subst h
      simp only [Memory.write]
      split
      · simp [Memory.read]
      · split
        · simp [Memory.read, *]
        · have : ¬ k = q.toNat := by omega
          simp [Memory.read, this, ih]
    · have hne : ¬ p.toNat = q.toNat := fun e => h (BitVec.eq_of_toNat_eq e.symm)
      simp only [Memory.write]
      split
      · simp [Memory.read, hne]
      · split
        · have : ¬ k = q.toNat := by omega
          simp [Memory.read, this]
        · simp [Memory.read, ih, h]

/-- A write keeps the addresses rising from `low`, if it is itself at or above `low`. -/
theorem Memory.risingFrom_write (m : Memory) (p : Addr20) (v : Byte) (low : Nat) (hm : m.risingFrom low = true)
    (hp : low ≤ p.toNat) : (m.write p v).risingFrom low = true := by
  induction m generalizing low with
  | nil => simp [Memory.write, Memory.risingFrom, hp, p.isLt]
  | cons c m ih =>
    obtain ⟨k, w⟩ := c
    simp only [Memory.risingFrom, Bool.and_eq_true, decide_eq_true_eq] at hm
    have := p.isLt
    simp only [Memory.write]
    split
    · simp only [Memory.risingFrom, Bool.and_eq_true, decide_eq_true_eq]
      exact ⟨⟨hp, by omega⟩, ⟨by omega, hm.1.2⟩, hm.2⟩
    · split
      · simp only [Memory.risingFrom, Bool.and_eq_true, decide_eq_true_eq]
        exact ⟨hm.1, hm.2⟩
      · simp only [Memory.risingFrom, Bool.and_eq_true, decide_eq_true_eq]
        exact ⟨hm.1, ih (k + 1) hm.2 (by omega)⟩

/-- A write keeps the canonical form. -/
theorem Memory.write_wf (m : Memory) (p : Addr20) (v : Byte) (h : m.wf = true) : (m.write p v).wf = true :=
  Memory.risingFrom_write m p v 0 h (Nat.zero_le _)

/-- The memory of the state after reset is in canonical form. -/
theorem Memory.reset_wf : State.reset.mem.wf = true := rfl

end Sys2Proof.Machine
end

