-- ==== Sys2Proof/Laws/Ops.lean ====
section
/-! SUPPORT. For each shared operation, what it can do, said once: the `_next` lemmas (if it answers a next state,
then ...), the `_of` lemmas (where its bytes have values, it goes on with them), and what translation does not read. -/

namespace Sys2Proof.Machine

/-! ## Halves of words -/

/-- A word as a number. -/
theorem word_toNat (h l : Byte) : (word h l).toNat = h.toNat * 256 + l.toNat := by
  rw [word, BitVec.toNat_append, ← Nat.shiftLeft_add_eq_or_of_lt l.isLt, Nat.shiftLeft_eq]

/-- The high byte as a number. -/
theorem hiByte_toNat (w : Word) : (hiByte w).toNat = w.toNat / 256 := by
  have := w.isLt
  simp only [hiByte, BitVec.extractLsb'_toNat, Nat.shiftRight_eq_div_pow]; omega

/-- The low byte as a number. -/
theorem loByte_toNat (w : Word) : (loByte w).toNat = w.toNat % 256 := by
  simp [loByte, BitVec.extractLsb'_toNat]

@[simp] theorem word_hiByte_loByte (w : Word) : word (hiByte w) (loByte w) = w :=
  BitVec.eq_of_toNat_eq (by rw [word_toNat, hiByte_toNat, loByte_toNat]; omega)

@[simp] theorem hiByte_word (h l : Byte) : hiByte (word h l) = h :=
  BitVec.eq_of_toNat_eq (by have := l.isLt; rw [hiByte_toNat, word_toNat]; omega)

@[simp] theorem loByte_word (h l : Byte) : loByte (word h l) = l :=
  BitVec.eq_of_toNat_eq (by have := l.isLt; rw [loByte_toNat, word_toNat]; omega)

@[simp] theorem State.setBC_bc (s : State) (v : Word) : (s.setBC v).bc = v := word_hiByte_loByte v
@[simp] theorem State.setDE_de (s : State) (v : Word) : (s.setDE v).de = v := word_hiByte_loByte v
@[simp] theorem State.setHL_hl (s : State) (v : Word) : (s.setHL v).hl = v := word_hiByte_loByte v

/-! ## Loads -/

theorem State.loadPhys_of {s : State} {p : Addr20} {v : Byte} (k : Byte → Out) (h : s.mem.read p = some v) :
    s.loadPhys p k = k v := by simp [State.loadPhys, h]

theorem State.loadPhys_next {s t : State} {p : Addr20} {k : Byte → Out} (h : s.loadPhys p k = .next t) :
    ∃ v, s.mem.read p = some v ∧ k v = .next t := by
  unfold State.loadPhys at h; split at h
  · exact ⟨_, ‹_›, h⟩
  · cases h

theorem State.load_of {s : State} {a : Word} {v : Byte} (k : Byte → Out) (h : s.readByte a = some v) :
    s.load a k = k v := State.loadPhys_of k h

theorem State.load_next {s t : State} {a : Word} {k : Byte → Out} (h : s.load a k = .next t) :
    ∃ v, s.readByte a = some v ∧ k v = .next t := State.loadPhys_next h

theorem State.loadWord_of {s : State} {a : Word} {lo hi : Byte} (k : Word → Out) (hl : s.readByte a = some lo)
    (hh : s.readByte (a + 1) = some hi) : s.loadWord a k = k (word hi lo) := by
  rw [State.loadWord, State.load_of _ hl, State.load_of _ hh]

theorem State.loadWord_next {s t : State} {a : Word} {k : Word → Out} (h : s.loadWord a k = .next t) :
    ∃ lo hi, s.readByte a = some lo ∧ s.readByte (a + 1) = some hi ∧ k (word hi lo) = .next t := by
  obtain ⟨lo, hl, h⟩ := State.load_next h
  obtain ⟨hi, hh, h⟩ := State.load_next h
  exact ⟨lo, hi, hl, hh, h⟩

theorem State.loadLdp_of {s : State} {a : Word} {lo hi : Byte} (k : Word → Out)
    (hl : s.mem.read (s.ldpAddr a) = some lo) (hh : s.mem.read (s.ldpAddr (a + 1)) = some hi) :
    s.loadLdp a k = k (word hi lo) := by
  rw [State.loadLdp, State.loadPhys_of _ hl, State.loadPhys_of _ hh]

theorem State.loadLdp_next {s t : State} {a : Word} {k : Word → Out} (h : s.loadLdp a k = .next t) :
    ∃ lo hi, s.mem.read (s.ldpAddr a) = some lo ∧ s.mem.read (s.ldpAddr (a + 1)) = some hi ∧
      k (word hi lo) = .next t := by
  obtain ⟨lo, hl, h⟩ := State.loadPhys_next h
  obtain ⟨hi, hh, h⟩ := State.loadPhys_next h
  exact ⟨lo, hi, hl, hh, h⟩

/-! ## Pops -/

theorem State.popByte_of {s : State} {v : Byte} (k : Byte → State → Out) (h : s.readByte s.sp = some v) :
    s.popByte k = k v { s with sp := s.sp + 1 } := State.load_of _ h

theorem State.popByte_next {s t : State} {k : Byte → State → Out} (h : s.popByte k = .next t) :
    ∃ v, s.readByte s.sp = some v ∧ k v { s with sp := s.sp + 1 } = .next t := State.load_next h

theorem State.popWord_of {s : State} {lo hi : Byte} (k : Word → State → Out) (hl : s.readByte s.sp = some lo)
    (hh : s.readByte (s.sp + 1) = some hi) : s.popWord k = k (word hi lo) { s with sp := s.sp + 2 } :=
  State.loadWord_of _ hl hh

theorem State.popWord_next {s t : State} {k : Word → State → Out} (h : s.popWord k = .next t) :
    ∃ lo hi, s.readByte s.sp = some lo ∧ s.readByte (s.sp + 1) = some hi ∧
      k (word hi lo) { s with sp := s.sp + 2 } = .next t := State.loadWord_next h

/-! ## Privilege and return from interrupt -/

theorem State.privileged_of {s : State} (k : State → Out) (h : s.userMode = false) :
    s.privileged k = k { s with inhibit := true } := by simp [State.privileged, h]

theorem State.privileged_next {s t : State} {k : State → Out} (h : s.privileged k = .next t) :
    s.userMode = false ∧ k { s with inhibit := true } = .next t := by
  unfold State.privileged at h; split at h
  · cases h
  · rename_i hu; exact ⟨by simpa using hu, h⟩

theorem State.returnFromInterrupt_next {s t : State} {k : State → Out} (h : s.returnFromInterrupt k = .next t) :
    ∃ ip lo hi, s.readByte s.sp = some ip ∧ s.readByte (s.sp + 1) = some lo ∧ s.readByte (s.sp + 1 + 1) = some hi ∧
      k { s with ip := ip, pc := word hi lo, sp := s.sp + 1 + 2 } = .next t := by
  obtain ⟨ip, hi, h⟩ := State.popByte_next h
  obtain ⟨lo, hi', hl, hh, h⟩ := State.popWord_next h
  exact ⟨ip, lo, hi', hi, hl, hh, h⟩

/-! ## Traps -/

theorem State.enterTrap_eq (s : State) (ret entry : Word) :
    s.enterTrap ret entry = { s with
      mem := (s.mem.write (s.translate (s.sp - 1)) (hiByte ret)).write (s.translate (s.sp - 2)) (loByte ret),
      sp := s.sp - 2, pc := entry,
      su := if s.config.is3000A ∧ s.config.suOnTrap = .pushSystem then s.su.extractLsb' 0 6 ++ 0#2 else s.su } := by
  by_cases h : s.config.is3000A ∧ s.config.suOnTrap = .pushSystem
  · simp only [State.enterTrap, State.pushSystemMode, State.pushWord_config, h, if_true, and_self]; rfl
  · simp only [State.enterTrap, State.pushSystemMode, State.pushWord_config, h, if_false]; rfl

/-! ## I/O -/

theorem State.ioRead_eq (s : State) (space : IoSpace) (a : Word) :
    (s.ioRead space a).2 = { s with
      ioAnswers := s.ioAnswers.tail, ioReads := if s.ioAnswers = [] then s.ioReads + 1 else s.ioReads } := by
  obtain ⟨⟩ := s; unfold State.ioRead; split <;> simp_all

/-- The byte an I/O read answers: the environment's next one. -/
theorem State.ioRead_answer {s : State} {v : Byte} {later : List Byte} (space : IoSpace) (a : Word)
    (h : s.ioAnswers = v :: later) : (s.ioRead space a).1 = v := by simp [State.ioRead, h]

/-- The byte an I/O read answers where the environment has given none: the free value of this read. -/
theorem State.ioRead_free {s : State} (space : IoSpace) (a : Word) (h : s.ioAnswers = []) :
    (s.ioRead space a).1 = Config.ioByte s.ioReads space a := by simp [State.ioRead, h]

/-! ## Translation reads XPC, the segment registers and the configuration alone -/

theorem State.translate_congr {s t : State} (hx : t.xpc = s.xpc) (hg : t.segsize = s.segsize)
    (hs : t.stackseg = s.stackseg) (hd : t.dataseg = s.dataseg) (hc : t.config = s.config) (a : Word) :
    t.translate a = s.translate a := by
  simp [State.translate, State.segment, hx, hg, hs, hd, hc]

end Sys2Proof.Machine
end

