-- ==== Sys2Proof/Laws/Views.lean ====
section
/-! SUPPORT. The meaning of a constructor named by its fields is the shared operation at those fields. -/

namespace Sys2Proof.Machine

/-- The length of an instruction with a memory operand on the CB pages (R90). -/
def cbLength : MemArg → Word
  | .hl => 2
  | .indexed _ _ => 4

theorem exec_bitReg (op : BitOp) (b : Fin 8) (r : Reg8) (s : State) :
    exec (.bitReg op b r) s = bitRegister op b r s := by
  cases op <;> fin_cases b <;> cases r <;> rfl

theorem exec_bitAt (op : BitOp) (b : Fin 8) (m : MemArg) (s : State) :
    exec (.bitAt op b m) s = bitMemory op b m (cbLength m) s := by
  cases op <;> fin_cases b <;> rcases m with _ | ⟨i, d⟩ <;> (try cases i) <;> rfl

theorem exec_rotReg (op : Rot) (r : Reg8) (s : State) : exec (.rotReg op r) s = rotRegister op r s := by
  cases op <;> cases r <;> rfl

theorem exec_rotAt (op : Rot) (m : MemArg) (s : State) : exec (.rotAt op m) s = rotMemory op m (cbLength m) s := by
  cases op <;> rcases m with _ | ⟨i, d⟩ <;> (try cases i) <;> rfl

theorem exec_retIf (f : Cond) (s : State) : exec (.retIf f) s = returnIf f s := by cases f <;> rfl

theorem exec_rst (v : Restart) (s : State) : exec (.rst v) s = restart v s := by cases v <;> rfl

theorem exec_copy (op : Copy) (space : Option IoSpace) (s : State) :
    exec (.copy op space) s = blockCopy op space (if space = none then 2 else 3) s := by
  cases op <;> rcases space with _ | _ | _ <;> rfl

/-- An 8-bit operation into A, of its operand byte. -/
def aluA : Alu → Byte → Word → State → Out
  | .sub => subA
  | .sbc => sbcA
  | .xor => xorA
  | .or => orA

theorem exec_aluReg (op : Alu) (r : Reg8) (s : State) : exec (.aluReg op r) s = aluA op (s.getR r) 1 s := by
  cases op <;> cases r <;> rfl

theorem exec_aluN (op : Alu) (n : Byte) (s : State) : exec (.aluN op n) s = aluA op n 2 s := by
  cases op <;> rfl

theorem exec_aluAt (op : Alu) (m : MemArg) (s : State) :
    exec (.aluAt op m) s = s.load (s.ea m) fun y => aluA op y (if m = .hl then 1 else 3) s := by
  cases op <;> rcases m with _ | ⟨i, d⟩ <;> (try cases i) <;> rfl

theorem exec_sbcHL (ss : Ss) (s : State) : exec (.sbcHL ss) s = sbcHL (s.getSs ss) s := by cases ss <;> rfl

end Sys2Proof.Machine
end

