-- ==== Sys2Proof/Laws/Exec.lean ====
section
/-! SUPPORT. What an instruction can do, said once: `Effect i s t` lists every way `exec i s` can answer `next t`, and
`exec_effect` says that there is no other. A proof about all instructions is a case analysis over `Effect`. -/

namespace Sys2Proof.Machine

/-- The length of an instruction as pc adds it. -/
def encodedLen (i : Instr) : Word := BitVec.ofNat 16 (encode i).length

/-- The ways `exec i s` answers `next t`. -/
inductive Effect (i : Instr) (s t : State) : Prop where
  /-- Only flags: NOP, SCF, RDMODE, and RET f not taken. -/
  | flags (w : FlagWrites) (hi : i ∈ [.nop, .scf, .rdmode] ∨ ∃ f, i = .retIf f ∧ s.holds f = false)
      (ht : t = (s.putFlags w).advance (encodedLen i))
  /-- RET, and RET f taken. -/
  | ret (target : Word) (hi : i = .ret ∨ ∃ f, i = .retIf f ∧ s.holds f = true)
      (ht : t = { s with pc := target, sp := s.sp + 2 }.putFlags noFlags)
  | lret (target : Word) (x : Byte) (hi : i = .lret)
      (ht : t = { s with pc := target, xpc := x, sp := s.sp + 3 }.putFlags noFlags)
  | reti (target : Word) (ip : Byte) (hi : i = .reti) (hu : s.userMode = false)
      (ht : t = { s with inhibit := true, ip := ip, pc := target, sp := s.sp + 1 + 2 }.putFlags noFlags)
  | ljp (x : Byte) (mn : Word) (hi : i = .ljp x mn) (ht : t = { s with xpc := x, pc := mn }.putFlags noFlags)
  | trap (offset : Byte) (hi : Trap i)
      (ht : t = (s.enterTrap (s.pc + encodedLen i) (word s.iir offset)).putFlags noFlags)
  | ldpStore (a v : Word)
      (hi : i ∈ [.ldpAtHLHL, .ldpAtIXHL, .ldpAtIYHL] ∨
        ∃ mn, i ∈ [.ldpAtMnHL mn, .ldpAtMnIX mn, .ldpAtMnIY mn])
      (ht : t = ((s.storeLdp a v).putFlags noFlags).advance (encodedLen i))
  | ldpLoadHL (v : Word) (hi : i ∈ [.ldpHLAtHL, .ldpHLAtIX, .ldpHLAtIY] ∨ ∃ mn, i = .ldpHLAtMn mn)
      (ht : t = ((s.setHL v).putFlags noFlags).advance (encodedLen i))
  | ldpLoadIndex (k : Index) (v : Word)
      (hi : ∃ mn, i = match k with | .ix => .ldpIXAtMn mn | .iy => .ldpIYAtMn mn)
      (ht : t = ((s.setIndex k v).putFlags noFlags).advance (encodedLen i))
  | copy (op : Copy) (space : Option IoSpace) (v : Byte) (answers : List Byte) (reads : Nat) (w : FlagWrites)
      (hi : i = .copy op space)
      (ht : t = (((((({ s with ioAnswers := answers, ioReads := reads }.store s.de v).setBC (s.bc - 1)).setDE
        (s.de + copyStepDE op)).setHL (s.hl + copyStepHL op)).putFlags w).repeatOrAdvance (encodedLen i)))
  | mac (v : Byte) (de' : Word) (w : FlagWrites) (hi : i = .uma ∨ i = .ums)
      (ht : t = ({ ((s.store s.hl v).setBC (s.bc - 1)).setHL (s.hl + 1) with
        deAlt := de', ix := s.ix + 1, iy := s.iy + 1 }.putFlags w).repeatOrAdvance (encodedLen i))
  /-- A result in A: the 8-bit operations, NEG, the one-byte rotates. -/
  | accumulator (v : Byte) (w : FlagWrites) (hi : (∃ op, AluForm op i) ∨ i ∈ [.neg, .rla, .rlca, .rra, .rrca])
      (ht : t = ({ s with a := v }.putFlags w).advance (encodedLen i))
  | mul (hl bc : Word) (hi : i = .mul) (ht : t = (((s.setHL hl).setBC bc).putFlags noFlags).advance (encodedLen i))
  | wordHL (v : Word) (w : FlagWrites) (hi : i ∈ [.orHLDE, .rrHL] ∨ ∃ ss, i = .sbcHL ss)
      (ht : t = ((s.setHL v).putFlags w).advance (encodedLen i))
  | wordDE (v : Word) (w : FlagWrites) (hi : i ∈ [.rlDE, .rrDE]) (ht : t = ((s.setDE v).putFlags w).advance (encodedLen i))
  | wordIndex (k : Index) (v : Word) (w : FlagWrites)
      (hi : (k = .ix ∧ i ∈ [.orIXDE, .rrIX]) ∨ (k = .iy ∧ i ∈ [.orIYDE, .rrIY]))
      (ht : t = ((s.setIndex k v).putFlags w).advance (encodedLen i))
  | popAF (v : Word) (hi : i = .popAF)
      (ht : t = { s with a := hiByte v, f := loByte v, sp := s.sp + 2, pc := s.pc + encodedLen i })
  | popBC (v : Word) (hi : i = .popBC) (ht : t = (({ s with sp := s.sp + 2 }.setBC v).putFlags noFlags).advance (encodedLen i))
  | popDE (v : Word) (hi : i = .popDE) (ht : t = (({ s with sp := s.sp + 2 }.setDE v).putFlags noFlags).advance (encodedLen i))
  | popHL (v : Word) (hi : i = .popHL) (ht : t = (({ s with sp := s.sp + 2 }.setHL v).putFlags noFlags).advance (encodedLen i))
  | popIndex (k : Index) (v : Word) (hi : i = match k with | .ix => .popIX | .iy => .popIY)
      (ht : t = (({ s with sp := s.sp + 2 }.setIndex k v).putFlags noFlags).advance (encodedLen i))
  | popIP (v : Byte) (hi : i = .popIP) (hu : s.userMode = false)
      (ht : t = ({ s with inhibit := true, sp := s.sp + 1, ip := v }.putFlags noFlags).advance (encodedLen i))
  | popSU (v : Byte) (hi : i = .popSU) (hu : s.userMode = false)
      (ht : t = ({ s with inhibit := true, sp := s.sp + 1, su := v }.putFlags noFlags).advance (encodedLen i))
  | pushWord (v : Word) (hi : i ∈ [.pushIX, .pushIY] ∨ ∃ zz, i = .pushPair zz ∧ zz ≠ .af)
      (ht : t = ((s.pushWord v).putFlags noFlags).advance (encodedLen i))
  | pushAF (v : Word) (hi : i = .pushAF)
      (ht : t = (({ s with draws := s.draws + 1 }.pushWord v).putFlags noFlags).advance (encodedLen i))
  | pushIP (hi : i = .pushIP) (ht : t = ((s.pushByte s.ip).putFlags noFlags).advance (encodedLen i))
  | pushSU (hi : i = .pushSU) (hu : s.userMode = false)
      (ht : t = (({ s with inhibit := true }.pushByte s.su).putFlags noFlags).advance (encodedLen i))
  | register (r : Reg8) (v : Byte) (w : FlagWrites) (hi : RegisterForm r i)
      (ht : t = ((s.setR r v).putFlags w).advance (encodedLen i))
  | memory (m : MemArg) (v : Byte) (w : FlagWrites) (hi : (∃ op b, i = .bitAt op b m) ∨ ∃ op, i = .rotAt op m)
      (ht : t = ((s.store (s.ea m) v).putFlags w).advance (encodedLen i))
  | mode (v : Byte) (hi : i ∈ [.setusr, .sures]) (hu : s.userMode = false)
      (ht : t = ({ s with inhibit := true, su := v }.putFlags noFlags).advance (encodedLen i))

/-! ## The shared operations -/

theorem bitRegister_effect {s t : State} (op : BitOp) (b : Fin 8) (r : Reg8) (h : exec (.bitReg op b r) s = .next t) :
    Effect (.bitReg op b r) s t := by
  rw [exec_bitReg] at h
  have hl : encodedLen (Instr.bitReg op b r) = 2 := by cases op <;> fin_cases b <;> cases r <;> rfl
  injection h with h
  exact .register r _ _ (.inl ⟨op, b, rfl⟩) (hl ▸ h.symm)

theorem bitMemory_effect {s t : State} (op : BitOp) (b : Fin 8) (m : MemArg) (h : exec (.bitAt op b m) s = .next t) :
    Effect (.bitAt op b m) s t := by
  rw [exec_bitAt] at h
  have hl : encodedLen (Instr.bitAt op b m) = cbLength m := by
    cases op <;> fin_cases b <;> rcases m with _ | ⟨i, d⟩ <;> (try cases i) <;> rfl
  obtain ⟨x, -, h⟩ := State.load_next h
  injection h with h
  exact .memory m _ _ (.inl ⟨op, b, rfl⟩) (hl ▸ h.symm)

theorem rotRegister_effect {s t : State} (op : Rot) (r : Reg8) (h : exec (.rotReg op r) s = .next t) :
    Effect (.rotReg op r) s t := by
  rw [exec_rotReg] at h
  have hl : encodedLen (Instr.rotReg op r) = 2 := by cases op <;> cases r <;> rfl
  injection h with h
  exact .register r _ _ (.inr ⟨op, rfl⟩) (hl ▸ h.symm)

theorem rotMemory_effect {s t : State} (op : Rot) (m : MemArg) (h : exec (.rotAt op m) s = .next t) :
    Effect (.rotAt op m) s t := by
  rw [exec_rotAt] at h
  have hl : encodedLen (Instr.rotAt op m) = cbLength m := by
    cases op <;> rcases m with _ | ⟨i, d⟩ <;> (try cases i) <;> rfl
  obtain ⟨x, -, h⟩ := State.load_next h
  injection h with h
  exact .memory m _ _ (.inr ⟨op, rfl⟩) (hl ▸ h.symm)

theorem aluA_effect {s t : State} {i : Instr} (op : Alu) (y : Byte) (hi : AluForm op i)
    (h : aluA op y (encodedLen i) s = .next t) : Effect i s t := by
  cases op <;> injection h with h <;> exact .accumulator _ _ (.inl ⟨_, hi⟩) h.symm

theorem aluReg_effect {s t : State} (op : Alu) (r : Reg8) (h : exec (.aluReg op r) s = .next t) :
    Effect (.aluReg op r) s t := by
  rw [exec_aluReg] at h
  have hl : encodedLen (Instr.aluReg op r) = 1 := by cases op <;> cases r <;> rfl
  exact aluA_effect op _ (.inl ⟨r, rfl⟩) (hl ▸ h)

theorem aluN_effect {s t : State} (op : Alu) (n : Byte) (h : exec (.aluN op n) s = .next t) :
    Effect (.aluN op n) s t := by
  rw [exec_aluN] at h
  have hl : encodedLen (Instr.aluN op n) = 2 := by cases op <;> rfl
  exact aluA_effect op n (.inr (.inl ⟨n, rfl⟩)) (hl ▸ h)

theorem aluAt_effect {s t : State} (op : Alu) (m : MemArg) (h : exec (.aluAt op m) s = .next t) :
    Effect (.aluAt op m) s t := by
  rw [exec_aluAt] at h
  have hl : encodedLen (Instr.aluAt op m) = if m = .hl then 1 else 3 := by
    cases op <;> rcases m with _ | ⟨i, d⟩ <;> (try cases i) <;> rfl
  obtain ⟨y, -, h⟩ := State.load_next h
  exact aluA_effect op y (.inr (.inr ⟨m, rfl⟩)) (hl ▸ h)

theorem sbcHL_effect {s t : State} (ss : Ss) (h : exec (.sbcHL ss) s = .next t) : Effect (.sbcHL ss) s t := by
  rw [exec_sbcHL] at h
  have hl : encodedLen (Instr.sbcHL ss) = 2 := by cases ss <;> rfl
  injection h with h
  exact .wordHL _ _ (.inr ⟨ss, rfl⟩) (hl ▸ h.symm)

theorem returnNear_effect {s t : State} {i : Instr} (hi : i = .ret ∨ ∃ f, i = .retIf f ∧ s.holds f = true)
    (h : returnNear s = .next t) : Effect i s t := by
  obtain ⟨lo, hi', -, -, h⟩ := State.popWord_next h
  injection h with h
  exact .ret _ hi h.symm

theorem returnIf_effect {s t : State} (f : Cond) (h : exec (.retIf f) s = .next t) : Effect (.retIf f) s t := by
  rw [exec_retIf] at h
  have hl : encodedLen (Instr.retIf f) = 1 := by cases f <;> rfl
  unfold returnIf at h
  split at h
  · exact returnNear_effect (.inr ⟨f, rfl, ‹_›⟩) h
  · rename_i hf
    injection h with h
    exact .flags noFlags (.inr ⟨f, rfl, by simpa using hf⟩) (hl ▸ h.symm)

theorem restart_effect {s t : State} (v : Restart) (h : exec (.rst v) s = .next t) : Effect (.rst v) s t := by
  rw [exec_rst] at h
  have hl : encodedLen (Instr.rst v) = 1 := by cases v <;> rfl
  injection h with h
  exact .trap (restartOffset v) (.inr ⟨v, rfl⟩) (hl ▸ h.symm)

theorem blockCopy_effect {s t : State} (op : Copy) (space : Option IoSpace) (h : exec (.copy op space) s = .next t) :
    Effect (.copy op space) s t := by
  rw [exec_copy] at h
  have hl : encodedLen (Instr.copy op space) = if space = none then 2 else 3 := by
    cases op <;> rcases space with _ | _ | _ <;> rfl
  rcases space with _ | space
  · obtain ⟨v, -, h⟩ := State.load_next h
    injection h with h
    exact .copy op none v s.ioAnswers s.ioReads _ rfl (hl ▸ h.symm)
  · simp only [blockCopy, readSource, State.ioRead_eq] at h
    injection h with h
    exact .copy op (some space) _ _ _ _ rfl (hl ▸ h.symm)

theorem ldpLoad_next {s t : State} {a len : Word} {put : State → Word → State} (h : ldpLoad a len put s = .next t) :
    ∃ v, t = ((put s v).putFlags noFlags).advance len := by
  obtain ⟨lo, hi, -, -, h⟩ := State.loadLdp_next h
  injection h with h
  exact ⟨_, h.symm⟩

theorem popInto_next {s t : State} {len : Word} {put : State → Word → State} (h : popInto len put s = .next t) :
    ∃ v, t = ((put { s with sp := s.sp + 2 } v).putFlags noFlags).advance len := by
  obtain ⟨lo, hi, -, -, h⟩ := State.popWord_next h
  injection h with h
  exact ⟨_, h.symm⟩

/-! ## Every instruction -/

/-- What an instruction can do. -/
theorem exec_effect {i : Instr} {s t : State} (h : exec i s = .next t) : Effect i s t := by
  cases i with
  | ldpAtMnHL mn => injection h with h; exact .ldpStore _ _ (.inr ⟨mn, by simp⟩) h.symm
  | ldpAtMnIX mn => injection h with h; exact .ldpStore _ _ (.inr ⟨mn, by simp⟩) h.symm
  | ldpAtMnIY mn => injection h with h; exact .ldpStore _ _ (.inr ⟨mn, by simp⟩) h.symm
  | ldpHLAtMn mn => obtain ⟨v, rfl⟩ := ldpLoad_next h; exact .ldpLoadHL v (.inr ⟨mn, rfl⟩) rfl
  | ldpIXAtMn mn =>
    replace h : execLdpIXAtMn mn s = .next t := h; unfold execLdpIXAtMn at h
    obtain ⟨v, rfl⟩ := ldpLoad_next h; exact .ldpLoadIndex .ix v ⟨mn, rfl⟩ rfl
  | ldpIYAtMn mn =>
    replace h : execLdpIYAtMn mn s = .next t := h; unfold execLdpIYAtMn at h
    obtain ⟨v, rfl⟩ := ldpLoad_next h; exact .ldpLoadIndex .iy v ⟨mn, rfl⟩ rfl
  | ljp x mn =>
    replace h : execLjp x mn s = .next t := h; unfold execLjp at h
    split at h
    · cases h
    · injection h with h; exact .ljp _ _ rfl h.symm
  | subAtIXd d => exact aluAt_effect .sub (.indexed .ix d) h
  | subAtIYd d => exact aluAt_effect .sub (.indexed .iy d) h
  | subN n => exact aluN_effect .sub n h
  | sbcAtIXd d => exact aluAt_effect .sbc (.indexed .ix d) h
  | sbcAtIYd d => exact aluAt_effect .sbc (.indexed .iy d) h
  | sbcAN n => exact aluN_effect .sbc n h
  | orAtIXd d => exact aluAt_effect .or (.indexed .ix d) h
  | orAtIYd d => exact aluAt_effect .or (.indexed .iy d) h
  | orN n => exact aluN_effect .or n h
  | xorAtIXd d => exact aluAt_effect .xor (.indexed .ix d) h
  | xorAtIYd d => exact aluAt_effect .xor (.indexed .iy d) h
  | xorN n => exact aluN_effect .xor n h
  | res0AtIXd d => exact bitMemory_effect .res 0 (.indexed .ix d) h
  | res1AtIXd d => exact bitMemory_effect .res 1 (.indexed .ix d) h
  | res2AtIXd d => exact bitMemory_effect .res 2 (.indexed .ix d) h
  | res3AtIXd d => exact bitMemory_effect .res 3 (.indexed .ix d) h
  | res4AtIXd d => exact bitMemory_effect .res 4 (.indexed .ix d) h
  | res5AtIXd d => exact bitMemory_effect .res 5 (.indexed .ix d) h
  | res6AtIXd d => exact bitMemory_effect .res 6 (.indexed .ix d) h
  | res7AtIXd d => exact bitMemory_effect .res 7 (.indexed .ix d) h
  | res0AtIYd d => exact bitMemory_effect .res 0 (.indexed .iy d) h
  | res1AtIYd d => exact bitMemory_effect .res 1 (.indexed .iy d) h
  | res2AtIYd d => exact bitMemory_effect .res 2 (.indexed .iy d) h
  | res3AtIYd d => exact bitMemory_effect .res 3 (.indexed .iy d) h
  | res4AtIYd d => exact bitMemory_effect .res 4 (.indexed .iy d) h
  | res5AtIYd d => exact bitMemory_effect .res 5 (.indexed .iy d) h
  | res6AtIYd d => exact bitMemory_effect .res 6 (.indexed .iy d) h
  | res7AtIYd d => exact bitMemory_effect .res 7 (.indexed .iy d) h
  | set0AtIXd d => exact bitMemory_effect .set 0 (.indexed .ix d) h
  | set1AtIXd d => exact bitMemory_effect .set 1 (.indexed .ix d) h
  | set2AtIXd d => exact bitMemory_effect .set 2 (.indexed .ix d) h
  | set3AtIXd d => exact bitMemory_effect .set 3 (.indexed .ix d) h
  | set4AtIXd d => exact bitMemory_effect .set 4 (.indexed .ix d) h
  | set5AtIXd d => exact bitMemory_effect .set 5 (.indexed .ix d) h
  | set6AtIXd d => exact bitMemory_effect .set 6 (.indexed .ix d) h
  | set7AtIXd d => exact bitMemory_effect .set 7 (.indexed .ix d) h
  | set0AtIYd d => exact bitMemory_effect .set 0 (.indexed .iy d) h
  | set1AtIYd d => exact bitMemory_effect .set 1 (.indexed .iy d) h
  | set2AtIYd d => exact bitMemory_effect .set 2 (.indexed .iy d) h
  | set3AtIYd d => exact bitMemory_effect .set 3 (.indexed .iy d) h
  | set4AtIYd d => exact bitMemory_effect .set 4 (.indexed .iy d) h
  | set5AtIYd d => exact bitMemory_effect .set 5 (.indexed .iy d) h
  | set6AtIYd d => exact bitMemory_effect .set 6 (.indexed .iy d) h
  | set7AtIYd d => exact bitMemory_effect .set 7 (.indexed .iy d) h
  | rlAtIXd d => exact rotMemory_effect .rl (.indexed .ix d) h
  | rlAtIYd d => exact rotMemory_effect .rl (.indexed .iy d) h
  | rlcAtIXd d => exact rotMemory_effect .rlc (.indexed .ix d) h
  | rlcAtIYd d => exact rotMemory_effect .rlc (.indexed .iy d) h
  | rrAtIXd d => exact rotMemory_effect .rr (.indexed .ix d) h
  | rrAtIYd d => exact rotMemory_effect .rr (.indexed .iy d) h
  | rrcAtIXd d => exact rotMemory_effect .rrc (.indexed .ix d) h
  | rrcAtIYd d => exact rotMemory_effect .rrc (.indexed .iy d) h
  | slaAtIXd d => exact rotMemory_effect .sla (.indexed .ix d) h
  | slaAtIYd d => exact rotMemory_effect .sla (.indexed .iy d) h
  | sraAtIXd d => exact rotMemory_effect .sra (.indexed .ix d) h
  | sraAtIYd d => exact rotMemory_effect .sra (.indexed .iy d) h
  | srlAtIXd d => exact rotMemory_effect .srl (.indexed .ix d) h
  | srlAtIYd d => exact rotMemory_effect .srl (.indexed .iy d) h
  | ldpAtHLHL => injection h with h; exact .ldpStore _ _ (.inl (by simp)) h.symm
  | ldpAtIXHL => injection h with h; exact .ldpStore _ _ (.inl (by simp)) h.symm
  | ldpAtIYHL => injection h with h; exact .ldpStore _ _ (.inl (by simp)) h.symm
  | ldpHLAtHL => obtain ⟨v, rfl⟩ := ldpLoad_next h; exact .ldpLoadHL v (.inl (by simp)) rfl
  | ldpHLAtIX => obtain ⟨v, rfl⟩ := ldpLoad_next h; exact .ldpLoadHL v (.inl (by simp)) rfl
  | ldpHLAtIY => obtain ⟨v, rfl⟩ := ldpLoad_next h; exact .ldpLoadHL v (.inl (by simp)) rfl
  | lret =>
    replace h : execLret s = .next t := h; unfold execLret at h
    obtain ⟨_, _, -, -, h⟩ := State.loadWord_next h; obtain ⟨_, -, h⟩ := State.load_next h
    injection h with h; exact .lret _ _ rfl h.symm
  | ret => exact returnNear_effect (.inl rfl) h
  | retNZ => exact returnIf_effect .nz h
  | retZ => exact returnIf_effect .z h
  | retNC => exact returnIf_effect .nc h
  | retC => exact returnIf_effect .c h
  | retLZ => exact returnIf_effect .lz h
  | retLO => exact returnIf_effect .lo h
  | retP => exact returnIf_effect .p h
  | retM => exact returnIf_effect .m h
  | reti =>
    replace h : execReti s = .next t := h; unfold execReti at h
    obtain ⟨hu, h⟩ := State.privileged_next h; obtain ⟨_, _, _, -, -, -, h⟩ := State.returnFromInterrupt_next h
    injection h with h; exact .reti _ _ rfl hu h.symm
  | rst10 => exact restart_effect .v10 h
  | rst18 => exact restart_effect .v18 h
  | rst20 => exact restart_effect .v20 h
  | rst28 => exact restart_effect .v28 h
  | rst38 => exact restart_effect .v38 h
  | syscall => injection h with h; exact .trap 0x60 (.inl rfl) h.symm
  | lsdr => exact blockCopy_effect .lsdr none h
  | ioiLsdr => exact blockCopy_effect .lsdr (some .internal) h
  | ioeLsdr => exact blockCopy_effect .lsdr (some .external) h
  | lsir => exact blockCopy_effect .lsir none h
  | ioiLsir => exact blockCopy_effect .lsir (some .internal) h
  | ioeLsir => exact blockCopy_effect .lsir (some .external) h
  | lsddr => exact blockCopy_effect .lsddr none h
  | ioiLsddr => exact blockCopy_effect .lsddr (some .internal) h
  | ioeLsddr => exact blockCopy_effect .lsddr (some .external) h
  | lsidr => exact blockCopy_effect .lsidr none h
  | ioiLsidr => exact blockCopy_effect .lsidr (some .internal) h
  | ioeLsidr => exact blockCopy_effect .lsidr (some .external) h
  | uma =>
    replace h : execUma s = .next t := h; unfold execUma at h
    obtain ⟨_, -, h⟩ := State.load_next h; obtain ⟨_, -, h⟩ := State.load_next h
    injection h with h; exact .mac _ _ _ (.inl rfl) h.symm
  | ums =>
    replace h : execUms s = .next t := h; unfold execUms at h
    obtain ⟨_, -, h⟩ := State.load_next h; obtain ⟨_, -, h⟩ := State.load_next h
    injection h with h; exact .mac _ _ _ (.inr rfl) h.symm
  | mul => injection h with h; exact .mul _ _ rfl h.symm
  | neg => injection h with h; exact .accumulator _ _ (.inr (by simp)) h.symm
  | subAtHL => exact aluAt_effect .sub .hl h
  | subB => exact aluReg_effect .sub .b h
  | subC => exact aluReg_effect .sub .c h
  | subD => exact aluReg_effect .sub .d h
  | subE => exact aluReg_effect .sub .e h
  | subH => exact aluReg_effect .sub .h h
  | subL => exact aluReg_effect .sub .l h
  | subA => exact aluReg_effect .sub .a h
  | sbcAAtHL => exact aluAt_effect .sbc .hl h
  | sbcAB => exact aluReg_effect .sbc .b h
  | sbcAC => exact aluReg_effect .sbc .c h
  | sbcAD => exact aluReg_effect .sbc .d h
  | sbcAE => exact aluReg_effect .sbc .e h
  | sbcAH => exact aluReg_effect .sbc .h h
  | sbcAL => exact aluReg_effect .sbc .l h
  | sbcAA => exact aluReg_effect .sbc .a h
  | sbcHLBC => exact sbcHL_effect .bc h
  | sbcHLDE => exact sbcHL_effect .de h
  | sbcHLHL => exact sbcHL_effect .hl h
  | sbcHLSP => exact sbcHL_effect .sp h
  | nop => injection h with h; exact .flags _ (.inl (by simp)) h.symm
  | orAtHL => exact aluAt_effect .or .hl h
  | orHLDE => injection h with h; exact .wordHL _ _ (.inl (by simp)) h.symm
  | orIXDE => injection h with h; exact .wordIndex .ix _ _ (by simp) h.symm
  | orIYDE => injection h with h; exact .wordIndex .iy _ _ (by simp) h.symm
  | orB => exact aluReg_effect .or .b h
  | orC => exact aluReg_effect .or .c h
  | orD => exact aluReg_effect .or .d h
  | orE => exact aluReg_effect .or .e h
  | orH => exact aluReg_effect .or .h h
  | orL => exact aluReg_effect .or .l h
  | orA => exact aluReg_effect .or .a h
  | xorAtHL => exact aluAt_effect .xor .hl h
  | xorB => exact aluReg_effect .xor .b h
  | xorC => exact aluReg_effect .xor .c h
  | xorD => exact aluReg_effect .xor .d h
  | xorE => exact aluReg_effect .xor .e h
  | xorH => exact aluReg_effect .xor .h h
  | xorL => exact aluReg_effect .xor .l h
  | xorA => exact aluReg_effect .xor .a h
  | scf => injection h with h; exact .flags _ (.inl (by simp)) h.symm
  | popIP =>
    replace h : execPopIP s = .next t := h; unfold execPopIP at h
    obtain ⟨hu, h⟩ := State.privileged_next h; obtain ⟨_, -, h⟩ := State.popByte_next h
    injection h with h; exact .popIP _ rfl hu h.symm
  | popIX =>
    replace h : execPopIX s = .next t := h; unfold execPopIX at h
    obtain ⟨v, rfl⟩ := popInto_next h; exact .popIndex .ix v rfl rfl
  | popIY =>
    replace h : execPopIY s = .next t := h; unfold execPopIY at h
    obtain ⟨v, rfl⟩ := popInto_next h; exact .popIndex .iy v rfl rfl
  | popSU =>
    replace h : execPopSU s = .next t := h; unfold execPopSU at h
    obtain ⟨hu, h⟩ := State.privileged_next h; obtain ⟨_, -, h⟩ := State.popByte_next h
    injection h with h; exact .popSU _ rfl hu h.symm
  | popAF =>
    replace h : execPopAF s = .next t := h; unfold execPopAF at h
    obtain ⟨_, _, -, -, h⟩ := State.popWord_next h; injection h with h; exact .popAF _ rfl h.symm
  | popBC => obtain ⟨v, rfl⟩ := popInto_next h; exact .popBC v rfl rfl
  | popDE => obtain ⟨v, rfl⟩ := popInto_next h; exact .popDE v rfl rfl
  | popHL => obtain ⟨v, rfl⟩ := popInto_next h; exact .popHL v rfl rfl
  | pushIP => injection h with h; exact .pushIP rfl h.symm
  | pushIX => injection h with h; exact .pushWord _ (.inl (by simp)) h.symm
  | pushIY => injection h with h; exact .pushWord _ (.inl (by simp)) h.symm
  | pushAF => injection h with h; exact .pushAF _ rfl h.symm
  | pushBC => injection h with h; exact .pushWord _ (.inr ⟨.bc, rfl, nofun⟩) h.symm
  | pushDE => injection h with h; exact .pushWord _ (.inr ⟨.de, rfl, nofun⟩) h.symm
  | pushHL => injection h with h; exact .pushWord _ (.inr ⟨.hl, rfl, nofun⟩) h.symm
  | pushSU =>
    replace h : execPushSU s = .next t := h; unfold execPushSU at h
    obtain ⟨hu, h⟩ := State.privileged_next h; injection h with h; exact .pushSU rfl hu h.symm
  | res0AtHL => exact bitMemory_effect .res 0 .hl h
  | res1AtHL => exact bitMemory_effect .res 1 .hl h
  | res2AtHL => exact bitMemory_effect .res 2 .hl h
  | res3AtHL => exact bitMemory_effect .res 3 .hl h
  | res4AtHL => exact bitMemory_effect .res 4 .hl h
  | res5AtHL => exact bitMemory_effect .res 5 .hl h
  | res6AtHL => exact bitMemory_effect .res 6 .hl h
  | res7AtHL => exact bitMemory_effect .res 7 .hl h
  | res0B => exact bitRegister_effect .res 0 .b h
  | res0C => exact bitRegister_effect .res 0 .c h
  | res0D => exact bitRegister_effect .res 0 .d h
  | res0E => exact bitRegister_effect .res 0 .e h
  | res0H => exact bitRegister_effect .res 0 .h h
  | res0L => exact bitRegister_effect .res 0 .l h
  | res0A => exact bitRegister_effect .res 0 .a h
  | res1B => exact bitRegister_effect .res 1 .b h
  | res1C => exact bitRegister_effect .res 1 .c h
  | res1D => exact bitRegister_effect .res 1 .d h
  | res1E => exact bitRegister_effect .res 1 .e h
  | res1H => exact bitRegister_effect .res 1 .h h
  | res1L => exact bitRegister_effect .res 1 .l h
  | res1A => exact bitRegister_effect .res 1 .a h
  | res2B => exact bitRegister_effect .res 2 .b h
  | res2C => exact bitRegister_effect .res 2 .c h
  | res2D => exact bitRegister_effect .res 2 .d h
  | res2E => exact bitRegister_effect .res 2 .e h
  | res2H => exact bitRegister_effect .res 2 .h h
  | res2L => exact bitRegister_effect .res 2 .l h
  | res2A => exact bitRegister_effect .res 2 .a h
  | res3B => exact bitRegister_effect .res 3 .b h
  | res3C => exact bitRegister_effect .res 3 .c h
  | res3D => exact bitRegister_effect .res 3 .d h
  | res3E => exact bitRegister_effect .res 3 .e h
  | res3H => exact bitRegister_effect .res 3 .h h
  | res3L => exact bitRegister_effect .res 3 .l h
  | res3A => exact bitRegister_effect .res 3 .a h
  | res4B => exact bitRegister_effect .res 4 .b h
  | res4C => exact bitRegister_effect .res 4 .c h
  | res4D => exact bitRegister_effect .res 4 .d h
  | res4E => exact bitRegister_effect .res 4 .e h
  | res4H => exact bitRegister_effect .res 4 .h h
  | res4L => exact bitRegister_effect .res 4 .l h
  | res4A => exact bitRegister_effect .res 4 .a h
  | res5B => exact bitRegister_effect .res 5 .b h
  | res5C => exact bitRegister_effect .res 5 .c h
  | res5D => exact bitRegister_effect .res 5 .d h
  | res5E => exact bitRegister_effect .res 5 .e h
  | res5H => exact bitRegister_effect .res 5 .h h
  | res5L => exact bitRegister_effect .res 5 .l h
  | res5A => exact bitRegister_effect .res 5 .a h
  | res6B => exact bitRegister_effect .res 6 .b h
  | res6C => exact bitRegister_effect .res 6 .c h
  | res6D => exact bitRegister_effect .res 6 .d h
  | res6E => exact bitRegister_effect .res 6 .e h
  | res6H => exact bitRegister_effect .res 6 .h h
  | res6L => exact bitRegister_effect .res 6 .l h
  | res6A => exact bitRegister_effect .res 6 .a h
  | res7B => exact bitRegister_effect .res 7 .b h
  | res7C => exact bitRegister_effect .res 7 .c h
  | res7D => exact bitRegister_effect .res 7 .d h
  | res7E => exact bitRegister_effect .res 7 .e h
  | res7H => exact bitRegister_effect .res 7 .h h
  | res7L => exact bitRegister_effect .res 7 .l h
  | res7A => exact bitRegister_effect .res 7 .a h
  | set0AtHL => exact bitMemory_effect .set 0 .hl h
  | set1AtHL => exact bitMemory_effect .set 1 .hl h
  | set2AtHL => exact bitMemory_effect .set 2 .hl h
  | set3AtHL => exact bitMemory_effect .set 3 .hl h
  | set4AtHL => exact bitMemory_effect .set 4 .hl h
  | set5AtHL => exact bitMemory_effect .set 5 .hl h
  | set6AtHL => exact bitMemory_effect .set 6 .hl h
  | set7AtHL => exact bitMemory_effect .set 7 .hl h
  | set0B => exact bitRegister_effect .set 0 .b h
  | set0C => exact bitRegister_effect .set 0 .c h
  | set0D => exact bitRegister_effect .set 0 .d h
  | set0E => exact bitRegister_effect .set 0 .e h
  | set0H => exact bitRegister_effect .set 0 .h h
  | set0L => exact bitRegister_effect .set 0 .l h
  | set0A => exact bitRegister_effect .set 0 .a h
  | set1B => exact bitRegister_effect .set 1 .b h
  | set1C => exact bitRegister_effect .set 1 .c h
  | set1D => exact bitRegister_effect .set 1 .d h
  | set1E => exact bitRegister_effect .set 1 .e h
  | set1H => exact bitRegister_effect .set 1 .h h
  | set1L => exact bitRegister_effect .set 1 .l h
  | set1A => exact bitRegister_effect .set 1 .a h
  | set2B => exact bitRegister_effect .set 2 .b h
  | set2C => exact bitRegister_effect .set 2 .c h
  | set2D => exact bitRegister_effect .set 2 .d h
  | set2E => exact bitRegister_effect .set 2 .e h
  | set2H => exact bitRegister_effect .set 2 .h h
  | set2L => exact bitRegister_effect .set 2 .l h
  | set2A => exact bitRegister_effect .set 2 .a h
  | set3B => exact bitRegister_effect .set 3 .b h
  | set3C => exact bitRegister_effect .set 3 .c h
  | set3D => exact bitRegister_effect .set 3 .d h
  | set3E => exact bitRegister_effect .set 3 .e h
  | set3H => exact bitRegister_effect .set 3 .h h
  | set3L => exact bitRegister_effect .set 3 .l h
  | set3A => exact bitRegister_effect .set 3 .a h
  | set4B => exact bitRegister_effect .set 4 .b h
  | set4C => exact bitRegister_effect .set 4 .c h
  | set4D => exact bitRegister_effect .set 4 .d h
  | set4E => exact bitRegister_effect .set 4 .e h
  | set4H => exact bitRegister_effect .set 4 .h h
  | set4L => exact bitRegister_effect .set 4 .l h
  | set4A => exact bitRegister_effect .set 4 .a h
  | set5B => exact bitRegister_effect .set 5 .b h
  | set5C => exact bitRegister_effect .set 5 .c h
  | set5D => exact bitRegister_effect .set 5 .d h
  | set5E => exact bitRegister_effect .set 5 .e h
  | set5H => exact bitRegister_effect .set 5 .h h
  | set5L => exact bitRegister_effect .set 5 .l h
  | set5A => exact bitRegister_effect .set 5 .a h
  | set6B => exact bitRegister_effect .set 6 .b h
  | set6C => exact bitRegister_effect .set 6 .c h
  | set6D => exact bitRegister_effect .set 6 .d h
  | set6E => exact bitRegister_effect .set 6 .e h
  | set6H => exact bitRegister_effect .set 6 .h h
  | set6L => exact bitRegister_effect .set 6 .l h
  | set6A => exact bitRegister_effect .set 6 .a h
  | set7B => exact bitRegister_effect .set 7 .b h
  | set7C => exact bitRegister_effect .set 7 .c h
  | set7D => exact bitRegister_effect .set 7 .d h
  | set7E => exact bitRegister_effect .set 7 .e h
  | set7H => exact bitRegister_effect .set 7 .h h
  | set7L => exact bitRegister_effect .set 7 .l h
  | set7A => exact bitRegister_effect .set 7 .a h
  | rlAtHL => exact rotMemory_effect .rl .hl h
  | rlB => exact rotRegister_effect .rl .b h
  | rlC => exact rotRegister_effect .rl .c h
  | rlD => exact rotRegister_effect .rl .d h
  | rlE => exact rotRegister_effect .rl .e h
  | rlH => exact rotRegister_effect .rl .h h
  | rlL => exact rotRegister_effect .rl .l h
  | rlA => exact rotRegister_effect .rl .a h
  | rlDE => injection h with h; exact .wordDE _ _ (by simp) h.symm
  | rla => injection h with h; exact .accumulator _ _ (.inr (by simp)) h.symm
  | rlcAtHL => exact rotMemory_effect .rlc .hl h
  | rlcB => exact rotRegister_effect .rlc .b h
  | rlcC => exact rotRegister_effect .rlc .c h
  | rlcD => exact rotRegister_effect .rlc .d h
  | rlcE => exact rotRegister_effect .rlc .e h
  | rlcH => exact rotRegister_effect .rlc .h h
  | rlcL => exact rotRegister_effect .rlc .l h
  | rlcA => exact rotRegister_effect .rlc .a h
  | rlca => injection h with h; exact .accumulator _ _ (.inr (by simp)) h.symm
  | rrAtHL => exact rotMemory_effect .rr .hl h
  | rrB => exact rotRegister_effect .rr .b h
  | rrC => exact rotRegister_effect .rr .c h
  | rrD => exact rotRegister_effect .rr .d h
  | rrE => exact rotRegister_effect .rr .e h
  | rrH => exact rotRegister_effect .rr .h h
  | rrL => exact rotRegister_effect .rr .l h
  | rrA => exact rotRegister_effect .rr .a h
  | rrDE => injection h with h; exact .wordDE _ _ (by simp) h.symm
  | rrHL => injection h with h; exact .wordHL _ _ (.inl (by simp)) h.symm
  | rrIX => injection h with h; exact .wordIndex .ix _ _ (by simp) h.symm
  | rrIY => injection h with h; exact .wordIndex .iy _ _ (by simp) h.symm
  | rra => injection h with h; exact .accumulator _ _ (.inr (by simp)) h.symm
  | rrcAtHL => exact rotMemory_effect .rrc .hl h
  | rrcB => exact rotRegister_effect .rrc .b h
  | rrcC => exact rotRegister_effect .rrc .c h
  | rrcD => exact rotRegister_effect .rrc .d h
  | rrcE => exact rotRegister_effect .rrc .e h
  | rrcH => exact rotRegister_effect .rrc .h h
  | rrcL => exact rotRegister_effect .rrc .l h
  | rrcA => exact rotRegister_effect .rrc .a h
  | rrca => injection h with h; exact .accumulator _ _ (.inr (by simp)) h.symm
  | slaAtHL => exact rotMemory_effect .sla .hl h
  | slaB => exact rotRegister_effect .sla .b h
  | slaC => exact rotRegister_effect .sla .c h
  | slaD => exact rotRegister_effect .sla .d h
  | slaE => exact rotRegister_effect .sla .e h
  | slaH => exact rotRegister_effect .sla .h h
  | slaL => exact rotRegister_effect .sla .l h
  | slaA => exact rotRegister_effect .sla .a h
  | sraAtHL => exact rotMemory_effect .sra .hl h
  | sraB => exact rotRegister_effect .sra .b h
  | sraC => exact rotRegister_effect .sra .c h
  | sraD => exact rotRegister_effect .sra .d h
  | sraE => exact rotRegister_effect .sra .e h
  | sraH => exact rotRegister_effect .sra .h h
  | sraL => exact rotRegister_effect .sra .l h
  | sraA => exact rotRegister_effect .sra .a h
  | srlAtHL => exact rotMemory_effect .srl .hl h
  | srlB => exact rotRegister_effect .srl .b h
  | srlC => exact rotRegister_effect .srl .c h
  | srlD => exact rotRegister_effect .srl .d h
  | srlE => exact rotRegister_effect .srl .e h
  | srlH => exact rotRegister_effect .srl .h h
  | srlL => exact rotRegister_effect .srl .l h
  | srlA => exact rotRegister_effect .srl .a h
  | rdmode => injection h with h; exact .flags _ (.inl (by simp)) h.symm
  | setusr =>
    replace h : execSetusr s = .next t := h; unfold execSetusr at h
    obtain ⟨hu, h⟩ := State.privileged_next h; injection h with h; exact .mode _ (by simp) hu h.symm
  | sures =>
    replace h : execSures s = .next t := h; unfold execSures at h
    obtain ⟨hu, h⟩ := State.privileged_next h; injection h with h; exact .mode _ (by simp) hu h.symm

end Sys2Proof.Machine
end

