-- ==== Sys2Proof/Laws/PerInstr.lean ====
section
/-! SUPPORT. Per-instruction families: a statement about every instruction as syntax, and its lemma for each
constructor. `EncodedLength`: R104 finds the length of an encoding from its first bytes. -/

namespace Sys2Proof.Laws

/-- Whatever follows the bytes of `i`, the length found from them is their number (R104). -/
def EncodedLength.Statement (i : Instr) : Prop :=
  ∀ rest : List Byte, instrLength (encode i ++ rest) = (encode i).length

theorem EncodedLength.ldpAtMnHL (mn : Word) : EncodedLength.Statement (.ldpAtMnHL mn) := fun _ => rfl
theorem EncodedLength.ldpAtMnIX (mn : Word) : EncodedLength.Statement (.ldpAtMnIX mn) := fun _ => rfl
theorem EncodedLength.ldpAtMnIY (mn : Word) : EncodedLength.Statement (.ldpAtMnIY mn) := fun _ => rfl
theorem EncodedLength.ldpHLAtMn (mn : Word) : EncodedLength.Statement (.ldpHLAtMn mn) := fun _ => rfl
theorem EncodedLength.ldpIXAtMn (mn : Word) : EncodedLength.Statement (.ldpIXAtMn mn) := fun _ => rfl
theorem EncodedLength.ldpIYAtMn (mn : Word) : EncodedLength.Statement (.ldpIYAtMn mn) := fun _ => rfl
theorem EncodedLength.ljp (x : Byte) (mn : Word) : EncodedLength.Statement (.ljp x mn) := fun _ => rfl
theorem EncodedLength.subAtIXd (d : Byte) : EncodedLength.Statement (.subAtIXd d) := fun _ => rfl
theorem EncodedLength.subAtIYd (d : Byte) : EncodedLength.Statement (.subAtIYd d) := fun _ => rfl
theorem EncodedLength.subN (n : Byte) : EncodedLength.Statement (.subN n) := fun _ => rfl
theorem EncodedLength.sbcAtIXd (d : Byte) : EncodedLength.Statement (.sbcAtIXd d) := fun _ => rfl
theorem EncodedLength.sbcAtIYd (d : Byte) : EncodedLength.Statement (.sbcAtIYd d) := fun _ => rfl
theorem EncodedLength.sbcAN (n : Byte) : EncodedLength.Statement (.sbcAN n) := fun _ => rfl
theorem EncodedLength.orAtIXd (d : Byte) : EncodedLength.Statement (.orAtIXd d) := fun _ => rfl
theorem EncodedLength.orAtIYd (d : Byte) : EncodedLength.Statement (.orAtIYd d) := fun _ => rfl
theorem EncodedLength.orN (n : Byte) : EncodedLength.Statement (.orN n) := fun _ => rfl
theorem EncodedLength.xorAtIXd (d : Byte) : EncodedLength.Statement (.xorAtIXd d) := fun _ => rfl
theorem EncodedLength.xorAtIYd (d : Byte) : EncodedLength.Statement (.xorAtIYd d) := fun _ => rfl
theorem EncodedLength.xorN (n : Byte) : EncodedLength.Statement (.xorN n) := fun _ => rfl
theorem EncodedLength.res0AtIXd (d : Byte) : EncodedLength.Statement (.res0AtIXd d) := fun _ => rfl
theorem EncodedLength.res1AtIXd (d : Byte) : EncodedLength.Statement (.res1AtIXd d) := fun _ => rfl
theorem EncodedLength.res2AtIXd (d : Byte) : EncodedLength.Statement (.res2AtIXd d) := fun _ => rfl
theorem EncodedLength.res3AtIXd (d : Byte) : EncodedLength.Statement (.res3AtIXd d) := fun _ => rfl
theorem EncodedLength.res4AtIXd (d : Byte) : EncodedLength.Statement (.res4AtIXd d) := fun _ => rfl
theorem EncodedLength.res5AtIXd (d : Byte) : EncodedLength.Statement (.res5AtIXd d) := fun _ => rfl
theorem EncodedLength.res6AtIXd (d : Byte) : EncodedLength.Statement (.res6AtIXd d) := fun _ => rfl
theorem EncodedLength.res7AtIXd (d : Byte) : EncodedLength.Statement (.res7AtIXd d) := fun _ => rfl
theorem EncodedLength.res0AtIYd (d : Byte) : EncodedLength.Statement (.res0AtIYd d) := fun _ => rfl
theorem EncodedLength.res1AtIYd (d : Byte) : EncodedLength.Statement (.res1AtIYd d) := fun _ => rfl
theorem EncodedLength.res2AtIYd (d : Byte) : EncodedLength.Statement (.res2AtIYd d) := fun _ => rfl
theorem EncodedLength.res3AtIYd (d : Byte) : EncodedLength.Statement (.res3AtIYd d) := fun _ => rfl
theorem EncodedLength.res4AtIYd (d : Byte) : EncodedLength.Statement (.res4AtIYd d) := fun _ => rfl
theorem EncodedLength.res5AtIYd (d : Byte) : EncodedLength.Statement (.res5AtIYd d) := fun _ => rfl
theorem EncodedLength.res6AtIYd (d : Byte) : EncodedLength.Statement (.res6AtIYd d) := fun _ => rfl
theorem EncodedLength.res7AtIYd (d : Byte) : EncodedLength.Statement (.res7AtIYd d) := fun _ => rfl
theorem EncodedLength.set0AtIXd (d : Byte) : EncodedLength.Statement (.set0AtIXd d) := fun _ => rfl
theorem EncodedLength.set1AtIXd (d : Byte) : EncodedLength.Statement (.set1AtIXd d) := fun _ => rfl
theorem EncodedLength.set2AtIXd (d : Byte) : EncodedLength.Statement (.set2AtIXd d) := fun _ => rfl
theorem EncodedLength.set3AtIXd (d : Byte) : EncodedLength.Statement (.set3AtIXd d) := fun _ => rfl
theorem EncodedLength.set4AtIXd (d : Byte) : EncodedLength.Statement (.set4AtIXd d) := fun _ => rfl
theorem EncodedLength.set5AtIXd (d : Byte) : EncodedLength.Statement (.set5AtIXd d) := fun _ => rfl
theorem EncodedLength.set6AtIXd (d : Byte) : EncodedLength.Statement (.set6AtIXd d) := fun _ => rfl
theorem EncodedLength.set7AtIXd (d : Byte) : EncodedLength.Statement (.set7AtIXd d) := fun _ => rfl
theorem EncodedLength.set0AtIYd (d : Byte) : EncodedLength.Statement (.set0AtIYd d) := fun _ => rfl
theorem EncodedLength.set1AtIYd (d : Byte) : EncodedLength.Statement (.set1AtIYd d) := fun _ => rfl
theorem EncodedLength.set2AtIYd (d : Byte) : EncodedLength.Statement (.set2AtIYd d) := fun _ => rfl
theorem EncodedLength.set3AtIYd (d : Byte) : EncodedLength.Statement (.set3AtIYd d) := fun _ => rfl
theorem EncodedLength.set4AtIYd (d : Byte) : EncodedLength.Statement (.set4AtIYd d) := fun _ => rfl
theorem EncodedLength.set5AtIYd (d : Byte) : EncodedLength.Statement (.set5AtIYd d) := fun _ => rfl
theorem EncodedLength.set6AtIYd (d : Byte) : EncodedLength.Statement (.set6AtIYd d) := fun _ => rfl
theorem EncodedLength.set7AtIYd (d : Byte) : EncodedLength.Statement (.set7AtIYd d) := fun _ => rfl
theorem EncodedLength.rlAtIXd (d : Byte) : EncodedLength.Statement (.rlAtIXd d) := fun _ => rfl
theorem EncodedLength.rlAtIYd (d : Byte) : EncodedLength.Statement (.rlAtIYd d) := fun _ => rfl
theorem EncodedLength.rlcAtIXd (d : Byte) : EncodedLength.Statement (.rlcAtIXd d) := fun _ => rfl
theorem EncodedLength.rlcAtIYd (d : Byte) : EncodedLength.Statement (.rlcAtIYd d) := fun _ => rfl
theorem EncodedLength.rrAtIXd (d : Byte) : EncodedLength.Statement (.rrAtIXd d) := fun _ => rfl
theorem EncodedLength.rrAtIYd (d : Byte) : EncodedLength.Statement (.rrAtIYd d) := fun _ => rfl
theorem EncodedLength.rrcAtIXd (d : Byte) : EncodedLength.Statement (.rrcAtIXd d) := fun _ => rfl
theorem EncodedLength.rrcAtIYd (d : Byte) : EncodedLength.Statement (.rrcAtIYd d) := fun _ => rfl
theorem EncodedLength.slaAtIXd (d : Byte) : EncodedLength.Statement (.slaAtIXd d) := fun _ => rfl
theorem EncodedLength.slaAtIYd (d : Byte) : EncodedLength.Statement (.slaAtIYd d) := fun _ => rfl
theorem EncodedLength.sraAtIXd (d : Byte) : EncodedLength.Statement (.sraAtIXd d) := fun _ => rfl
theorem EncodedLength.sraAtIYd (d : Byte) : EncodedLength.Statement (.sraAtIYd d) := fun _ => rfl
theorem EncodedLength.srlAtIXd (d : Byte) : EncodedLength.Statement (.srlAtIXd d) := fun _ => rfl
theorem EncodedLength.srlAtIYd (d : Byte) : EncodedLength.Statement (.srlAtIYd d) := fun _ => rfl
theorem EncodedLength.ldpAtHLHL : EncodedLength.Statement .ldpAtHLHL := fun _ => rfl
theorem EncodedLength.ldpAtIXHL : EncodedLength.Statement .ldpAtIXHL := fun _ => rfl
theorem EncodedLength.ldpAtIYHL : EncodedLength.Statement .ldpAtIYHL := fun _ => rfl
theorem EncodedLength.ldpHLAtHL : EncodedLength.Statement .ldpHLAtHL := fun _ => rfl
theorem EncodedLength.ldpHLAtIX : EncodedLength.Statement .ldpHLAtIX := fun _ => rfl
theorem EncodedLength.ldpHLAtIY : EncodedLength.Statement .ldpHLAtIY := fun _ => rfl
theorem EncodedLength.lret : EncodedLength.Statement .lret := fun _ => rfl
theorem EncodedLength.ret : EncodedLength.Statement .ret := fun _ => rfl
theorem EncodedLength.retNZ : EncodedLength.Statement .retNZ := fun _ => rfl
theorem EncodedLength.retZ : EncodedLength.Statement .retZ := fun _ => rfl
theorem EncodedLength.retNC : EncodedLength.Statement .retNC := fun _ => rfl
theorem EncodedLength.retC : EncodedLength.Statement .retC := fun _ => rfl
theorem EncodedLength.retLZ : EncodedLength.Statement .retLZ := fun _ => rfl
theorem EncodedLength.retLO : EncodedLength.Statement .retLO := fun _ => rfl
theorem EncodedLength.retP : EncodedLength.Statement .retP := fun _ => rfl
theorem EncodedLength.retM : EncodedLength.Statement .retM := fun _ => rfl
theorem EncodedLength.reti : EncodedLength.Statement .reti := fun _ => rfl
theorem EncodedLength.rst10 : EncodedLength.Statement .rst10 := fun _ => rfl
theorem EncodedLength.rst18 : EncodedLength.Statement .rst18 := fun _ => rfl
theorem EncodedLength.rst20 : EncodedLength.Statement .rst20 := fun _ => rfl
theorem EncodedLength.rst28 : EncodedLength.Statement .rst28 := fun _ => rfl
theorem EncodedLength.rst38 : EncodedLength.Statement .rst38 := fun _ => rfl
theorem EncodedLength.syscall : EncodedLength.Statement .syscall := fun _ => rfl
theorem EncodedLength.lsdr : EncodedLength.Statement .lsdr := fun _ => rfl
theorem EncodedLength.ioiLsdr : EncodedLength.Statement .ioiLsdr := fun _ => rfl
theorem EncodedLength.ioeLsdr : EncodedLength.Statement .ioeLsdr := fun _ => rfl
theorem EncodedLength.lsir : EncodedLength.Statement .lsir := fun _ => rfl
theorem EncodedLength.ioiLsir : EncodedLength.Statement .ioiLsir := fun _ => rfl
theorem EncodedLength.ioeLsir : EncodedLength.Statement .ioeLsir := fun _ => rfl
theorem EncodedLength.lsddr : EncodedLength.Statement .lsddr := fun _ => rfl
theorem EncodedLength.ioiLsddr : EncodedLength.Statement .ioiLsddr := fun _ => rfl
theorem EncodedLength.ioeLsddr : EncodedLength.Statement .ioeLsddr := fun _ => rfl
theorem EncodedLength.lsidr : EncodedLength.Statement .lsidr := fun _ => rfl
theorem EncodedLength.ioiLsidr : EncodedLength.Statement .ioiLsidr := fun _ => rfl
theorem EncodedLength.ioeLsidr : EncodedLength.Statement .ioeLsidr := fun _ => rfl
theorem EncodedLength.uma : EncodedLength.Statement .uma := fun _ => rfl
theorem EncodedLength.ums : EncodedLength.Statement .ums := fun _ => rfl
theorem EncodedLength.mul : EncodedLength.Statement .mul := fun _ => rfl
theorem EncodedLength.neg : EncodedLength.Statement .neg := fun _ => rfl
theorem EncodedLength.subAtHL : EncodedLength.Statement .subAtHL := fun _ => rfl
theorem EncodedLength.subB : EncodedLength.Statement .subB := fun _ => rfl
theorem EncodedLength.subC : EncodedLength.Statement .subC := fun _ => rfl
theorem EncodedLength.subD : EncodedLength.Statement .subD := fun _ => rfl
theorem EncodedLength.subE : EncodedLength.Statement .subE := fun _ => rfl
theorem EncodedLength.subH : EncodedLength.Statement .subH := fun _ => rfl
theorem EncodedLength.subL : EncodedLength.Statement .subL := fun _ => rfl
theorem EncodedLength.subA : EncodedLength.Statement .subA := fun _ => rfl
theorem EncodedLength.sbcAAtHL : EncodedLength.Statement .sbcAAtHL := fun _ => rfl
theorem EncodedLength.sbcAB : EncodedLength.Statement .sbcAB := fun _ => rfl
theorem EncodedLength.sbcAC : EncodedLength.Statement .sbcAC := fun _ => rfl
theorem EncodedLength.sbcAD : EncodedLength.Statement .sbcAD := fun _ => rfl
theorem EncodedLength.sbcAE : EncodedLength.Statement .sbcAE := fun _ => rfl
theorem EncodedLength.sbcAH : EncodedLength.Statement .sbcAH := fun _ => rfl
theorem EncodedLength.sbcAL : EncodedLength.Statement .sbcAL := fun _ => rfl
theorem EncodedLength.sbcAA : EncodedLength.Statement .sbcAA := fun _ => rfl
theorem EncodedLength.sbcHLBC : EncodedLength.Statement .sbcHLBC := fun _ => rfl
theorem EncodedLength.sbcHLDE : EncodedLength.Statement .sbcHLDE := fun _ => rfl
theorem EncodedLength.sbcHLHL : EncodedLength.Statement .sbcHLHL := fun _ => rfl
theorem EncodedLength.sbcHLSP : EncodedLength.Statement .sbcHLSP := fun _ => rfl
theorem EncodedLength.nop : EncodedLength.Statement .nop := fun _ => rfl
theorem EncodedLength.orAtHL : EncodedLength.Statement .orAtHL := fun _ => rfl
theorem EncodedLength.orHLDE : EncodedLength.Statement .orHLDE := fun _ => rfl
theorem EncodedLength.orIXDE : EncodedLength.Statement .orIXDE := fun _ => rfl
theorem EncodedLength.orIYDE : EncodedLength.Statement .orIYDE := fun _ => rfl
theorem EncodedLength.orB : EncodedLength.Statement .orB := fun _ => rfl
theorem EncodedLength.orC : EncodedLength.Statement .orC := fun _ => rfl
theorem EncodedLength.orD : EncodedLength.Statement .orD := fun _ => rfl
theorem EncodedLength.orE : EncodedLength.Statement .orE := fun _ => rfl
theorem EncodedLength.orH : EncodedLength.Statement .orH := fun _ => rfl
theorem EncodedLength.orL : EncodedLength.Statement .orL := fun _ => rfl
theorem EncodedLength.orA : EncodedLength.Statement .orA := fun _ => rfl
theorem EncodedLength.xorAtHL : EncodedLength.Statement .xorAtHL := fun _ => rfl
theorem EncodedLength.xorB : EncodedLength.Statement .xorB := fun _ => rfl
theorem EncodedLength.xorC : EncodedLength.Statement .xorC := fun _ => rfl
theorem EncodedLength.xorD : EncodedLength.Statement .xorD := fun _ => rfl
theorem EncodedLength.xorE : EncodedLength.Statement .xorE := fun _ => rfl
theorem EncodedLength.xorH : EncodedLength.Statement .xorH := fun _ => rfl
theorem EncodedLength.xorL : EncodedLength.Statement .xorL := fun _ => rfl
theorem EncodedLength.xorA : EncodedLength.Statement .xorA := fun _ => rfl
theorem EncodedLength.scf : EncodedLength.Statement .scf := fun _ => rfl
theorem EncodedLength.popIP : EncodedLength.Statement .popIP := fun _ => rfl
theorem EncodedLength.popIX : EncodedLength.Statement .popIX := fun _ => rfl
theorem EncodedLength.popIY : EncodedLength.Statement .popIY := fun _ => rfl
theorem EncodedLength.popSU : EncodedLength.Statement .popSU := fun _ => rfl
theorem EncodedLength.popAF : EncodedLength.Statement .popAF := fun _ => rfl
theorem EncodedLength.popBC : EncodedLength.Statement .popBC := fun _ => rfl
theorem EncodedLength.popDE : EncodedLength.Statement .popDE := fun _ => rfl
theorem EncodedLength.popHL : EncodedLength.Statement .popHL := fun _ => rfl
theorem EncodedLength.pushIP : EncodedLength.Statement .pushIP := fun _ => rfl
theorem EncodedLength.pushIX : EncodedLength.Statement .pushIX := fun _ => rfl
theorem EncodedLength.pushIY : EncodedLength.Statement .pushIY := fun _ => rfl
theorem EncodedLength.pushAF : EncodedLength.Statement .pushAF := fun _ => rfl
theorem EncodedLength.pushBC : EncodedLength.Statement .pushBC := fun _ => rfl
theorem EncodedLength.pushDE : EncodedLength.Statement .pushDE := fun _ => rfl
theorem EncodedLength.pushHL : EncodedLength.Statement .pushHL := fun _ => rfl
theorem EncodedLength.pushSU : EncodedLength.Statement .pushSU := fun _ => rfl
theorem EncodedLength.res0AtHL : EncodedLength.Statement .res0AtHL := fun _ => rfl
theorem EncodedLength.res1AtHL : EncodedLength.Statement .res1AtHL := fun _ => rfl
theorem EncodedLength.res2AtHL : EncodedLength.Statement .res2AtHL := fun _ => rfl
theorem EncodedLength.res3AtHL : EncodedLength.Statement .res3AtHL := fun _ => rfl
theorem EncodedLength.res4AtHL : EncodedLength.Statement .res4AtHL := fun _ => rfl
theorem EncodedLength.res5AtHL : EncodedLength.Statement .res5AtHL := fun _ => rfl
theorem EncodedLength.res6AtHL : EncodedLength.Statement .res6AtHL := fun _ => rfl
theorem EncodedLength.res7AtHL : EncodedLength.Statement .res7AtHL := fun _ => rfl
theorem EncodedLength.res0B : EncodedLength.Statement .res0B := fun _ => rfl
theorem EncodedLength.res0C : EncodedLength.Statement .res0C := fun _ => rfl
theorem EncodedLength.res0D : EncodedLength.Statement .res0D := fun _ => rfl
theorem EncodedLength.res0E : EncodedLength.Statement .res0E := fun _ => rfl
theorem EncodedLength.res0H : EncodedLength.Statement .res0H := fun _ => rfl
theorem EncodedLength.res0L : EncodedLength.Statement .res0L := fun _ => rfl
theorem EncodedLength.res0A : EncodedLength.Statement .res0A := fun _ => rfl
theorem EncodedLength.res1B : EncodedLength.Statement .res1B := fun _ => rfl
theorem EncodedLength.res1C : EncodedLength.Statement .res1C := fun _ => rfl
theorem EncodedLength.res1D : EncodedLength.Statement .res1D := fun _ => rfl
theorem EncodedLength.res1E : EncodedLength.Statement .res1E := fun _ => rfl
theorem EncodedLength.res1H : EncodedLength.Statement .res1H := fun _ => rfl
theorem EncodedLength.res1L : EncodedLength.Statement .res1L := fun _ => rfl
theorem EncodedLength.res1A : EncodedLength.Statement .res1A := fun _ => rfl
theorem EncodedLength.res2B : EncodedLength.Statement .res2B := fun _ => rfl
theorem EncodedLength.res2C : EncodedLength.Statement .res2C := fun _ => rfl
theorem EncodedLength.res2D : EncodedLength.Statement .res2D := fun _ => rfl
theorem EncodedLength.res2E : EncodedLength.Statement .res2E := fun _ => rfl
theorem EncodedLength.res2H : EncodedLength.Statement .res2H := fun _ => rfl
theorem EncodedLength.res2L : EncodedLength.Statement .res2L := fun _ => rfl
theorem EncodedLength.res2A : EncodedLength.Statement .res2A := fun _ => rfl
theorem EncodedLength.res3B : EncodedLength.Statement .res3B := fun _ => rfl
theorem EncodedLength.res3C : EncodedLength.Statement .res3C := fun _ => rfl
theorem EncodedLength.res3D : EncodedLength.Statement .res3D := fun _ => rfl
theorem EncodedLength.res3E : EncodedLength.Statement .res3E := fun _ => rfl
theorem EncodedLength.res3H : EncodedLength.Statement .res3H := fun _ => rfl
theorem EncodedLength.res3L : EncodedLength.Statement .res3L := fun _ => rfl
theorem EncodedLength.res3A : EncodedLength.Statement .res3A := fun _ => rfl
theorem EncodedLength.res4B : EncodedLength.Statement .res4B := fun _ => rfl
theorem EncodedLength.res4C : EncodedLength.Statement .res4C := fun _ => rfl
theorem EncodedLength.res4D : EncodedLength.Statement .res4D := fun _ => rfl
theorem EncodedLength.res4E : EncodedLength.Statement .res4E := fun _ => rfl
theorem EncodedLength.res4H : EncodedLength.Statement .res4H := fun _ => rfl
theorem EncodedLength.res4L : EncodedLength.Statement .res4L := fun _ => rfl
theorem EncodedLength.res4A : EncodedLength.Statement .res4A := fun _ => rfl
theorem EncodedLength.res5B : EncodedLength.Statement .res5B := fun _ => rfl
theorem EncodedLength.res5C : EncodedLength.Statement .res5C := fun _ => rfl
theorem EncodedLength.res5D : EncodedLength.Statement .res5D := fun _ => rfl
theorem EncodedLength.res5E : EncodedLength.Statement .res5E := fun _ => rfl
theorem EncodedLength.res5H : EncodedLength.Statement .res5H := fun _ => rfl
theorem EncodedLength.res5L : EncodedLength.Statement .res5L := fun _ => rfl
theorem EncodedLength.res5A : EncodedLength.Statement .res5A := fun _ => rfl
theorem EncodedLength.res6B : EncodedLength.Statement .res6B := fun _ => rfl
theorem EncodedLength.res6C : EncodedLength.Statement .res6C := fun _ => rfl
theorem EncodedLength.res6D : EncodedLength.Statement .res6D := fun _ => rfl
theorem EncodedLength.res6E : EncodedLength.Statement .res6E := fun _ => rfl
theorem EncodedLength.res6H : EncodedLength.Statement .res6H := fun _ => rfl
theorem EncodedLength.res6L : EncodedLength.Statement .res6L := fun _ => rfl
theorem EncodedLength.res6A : EncodedLength.Statement .res6A := fun _ => rfl
theorem EncodedLength.res7B : EncodedLength.Statement .res7B := fun _ => rfl
theorem EncodedLength.res7C : EncodedLength.Statement .res7C := fun _ => rfl
theorem EncodedLength.res7D : EncodedLength.Statement .res7D := fun _ => rfl
theorem EncodedLength.res7E : EncodedLength.Statement .res7E := fun _ => rfl
theorem EncodedLength.res7H : EncodedLength.Statement .res7H := fun _ => rfl
theorem EncodedLength.res7L : EncodedLength.Statement .res7L := fun _ => rfl
theorem EncodedLength.res7A : EncodedLength.Statement .res7A := fun _ => rfl
theorem EncodedLength.set0AtHL : EncodedLength.Statement .set0AtHL := fun _ => rfl
theorem EncodedLength.set1AtHL : EncodedLength.Statement .set1AtHL := fun _ => rfl
theorem EncodedLength.set2AtHL : EncodedLength.Statement .set2AtHL := fun _ => rfl
theorem EncodedLength.set3AtHL : EncodedLength.Statement .set3AtHL := fun _ => rfl
theorem EncodedLength.set4AtHL : EncodedLength.Statement .set4AtHL := fun _ => rfl
theorem EncodedLength.set5AtHL : EncodedLength.Statement .set5AtHL := fun _ => rfl
theorem EncodedLength.set6AtHL : EncodedLength.Statement .set6AtHL := fun _ => rfl
theorem EncodedLength.set7AtHL : EncodedLength.Statement .set7AtHL := fun _ => rfl
theorem EncodedLength.set0B : EncodedLength.Statement .set0B := fun _ => rfl
theorem EncodedLength.set0C : EncodedLength.Statement .set0C := fun _ => rfl
theorem EncodedLength.set0D : EncodedLength.Statement .set0D := fun _ => rfl
theorem EncodedLength.set0E : EncodedLength.Statement .set0E := fun _ => rfl
theorem EncodedLength.set0H : EncodedLength.Statement .set0H := fun _ => rfl
theorem EncodedLength.set0L : EncodedLength.Statement .set0L := fun _ => rfl
theorem EncodedLength.set0A : EncodedLength.Statement .set0A := fun _ => rfl
theorem EncodedLength.set1B : EncodedLength.Statement .set1B := fun _ => rfl
theorem EncodedLength.set1C : EncodedLength.Statement .set1C := fun _ => rfl
theorem EncodedLength.set1D : EncodedLength.Statement .set1D := fun _ => rfl
theorem EncodedLength.set1E : EncodedLength.Statement .set1E := fun _ => rfl
theorem EncodedLength.set1H : EncodedLength.Statement .set1H := fun _ => rfl
theorem EncodedLength.set1L : EncodedLength.Statement .set1L := fun _ => rfl
theorem EncodedLength.set1A : EncodedLength.Statement .set1A := fun _ => rfl
theorem EncodedLength.set2B : EncodedLength.Statement .set2B := fun _ => rfl
theorem EncodedLength.set2C : EncodedLength.Statement .set2C := fun _ => rfl
theorem EncodedLength.set2D : EncodedLength.Statement .set2D := fun _ => rfl
theorem EncodedLength.set2E : EncodedLength.Statement .set2E := fun _ => rfl
theorem EncodedLength.set2H : EncodedLength.Statement .set2H := fun _ => rfl
theorem EncodedLength.set2L : EncodedLength.Statement .set2L := fun _ => rfl
theorem EncodedLength.set2A : EncodedLength.Statement .set2A := fun _ => rfl
theorem EncodedLength.set3B : EncodedLength.Statement .set3B := fun _ => rfl
theorem EncodedLength.set3C : EncodedLength.Statement .set3C := fun _ => rfl
theorem EncodedLength.set3D : EncodedLength.Statement .set3D := fun _ => rfl
theorem EncodedLength.set3E : EncodedLength.Statement .set3E := fun _ => rfl
theorem EncodedLength.set3H : EncodedLength.Statement .set3H := fun _ => rfl
theorem EncodedLength.set3L : EncodedLength.Statement .set3L := fun _ => rfl
theorem EncodedLength.set3A : EncodedLength.Statement .set3A := fun _ => rfl
theorem EncodedLength.set4B : EncodedLength.Statement .set4B := fun _ => rfl
theorem EncodedLength.set4C : EncodedLength.Statement .set4C := fun _ => rfl
theorem EncodedLength.set4D : EncodedLength.Statement .set4D := fun _ => rfl
theorem EncodedLength.set4E : EncodedLength.Statement .set4E := fun _ => rfl
theorem EncodedLength.set4H : EncodedLength.Statement .set4H := fun _ => rfl
theorem EncodedLength.set4L : EncodedLength.Statement .set4L := fun _ => rfl
theorem EncodedLength.set4A : EncodedLength.Statement .set4A := fun _ => rfl
theorem EncodedLength.set5B : EncodedLength.Statement .set5B := fun _ => rfl
theorem EncodedLength.set5C : EncodedLength.Statement .set5C := fun _ => rfl
theorem EncodedLength.set5D : EncodedLength.Statement .set5D := fun _ => rfl
theorem EncodedLength.set5E : EncodedLength.Statement .set5E := fun _ => rfl
theorem EncodedLength.set5H : EncodedLength.Statement .set5H := fun _ => rfl
theorem EncodedLength.set5L : EncodedLength.Statement .set5L := fun _ => rfl
theorem EncodedLength.set5A : EncodedLength.Statement .set5A := fun _ => rfl
theorem EncodedLength.set6B : EncodedLength.Statement .set6B := fun _ => rfl
theorem EncodedLength.set6C : EncodedLength.Statement .set6C := fun _ => rfl
theorem EncodedLength.set6D : EncodedLength.Statement .set6D := fun _ => rfl
theorem EncodedLength.set6E : EncodedLength.Statement .set6E := fun _ => rfl
theorem EncodedLength.set6H : EncodedLength.Statement .set6H := fun _ => rfl
theorem EncodedLength.set6L : EncodedLength.Statement .set6L := fun _ => rfl
theorem EncodedLength.set6A : EncodedLength.Statement .set6A := fun _ => rfl
theorem EncodedLength.set7B : EncodedLength.Statement .set7B := fun _ => rfl
theorem EncodedLength.set7C : EncodedLength.Statement .set7C := fun _ => rfl
theorem EncodedLength.set7D : EncodedLength.Statement .set7D := fun _ => rfl
theorem EncodedLength.set7E : EncodedLength.Statement .set7E := fun _ => rfl
theorem EncodedLength.set7H : EncodedLength.Statement .set7H := fun _ => rfl
theorem EncodedLength.set7L : EncodedLength.Statement .set7L := fun _ => rfl
theorem EncodedLength.set7A : EncodedLength.Statement .set7A := fun _ => rfl
theorem EncodedLength.rlAtHL : EncodedLength.Statement .rlAtHL := fun _ => rfl
theorem EncodedLength.rlB : EncodedLength.Statement .rlB := fun _ => rfl
theorem EncodedLength.rlC : EncodedLength.Statement .rlC := fun _ => rfl
theorem EncodedLength.rlD : EncodedLength.Statement .rlD := fun _ => rfl
theorem EncodedLength.rlE : EncodedLength.Statement .rlE := fun _ => rfl
theorem EncodedLength.rlH : EncodedLength.Statement .rlH := fun _ => rfl
theorem EncodedLength.rlL : EncodedLength.Statement .rlL := fun _ => rfl
theorem EncodedLength.rlA : EncodedLength.Statement .rlA := fun _ => rfl
theorem EncodedLength.rlDE : EncodedLength.Statement .rlDE := fun _ => rfl
theorem EncodedLength.rla : EncodedLength.Statement .rla := fun _ => rfl
theorem EncodedLength.rlcAtHL : EncodedLength.Statement .rlcAtHL := fun _ => rfl
theorem EncodedLength.rlcB : EncodedLength.Statement .rlcB := fun _ => rfl
theorem EncodedLength.rlcC : EncodedLength.Statement .rlcC := fun _ => rfl
theorem EncodedLength.rlcD : EncodedLength.Statement .rlcD := fun _ => rfl
theorem EncodedLength.rlcE : EncodedLength.Statement .rlcE := fun _ => rfl
theorem EncodedLength.rlcH : EncodedLength.Statement .rlcH := fun _ => rfl
theorem EncodedLength.rlcL : EncodedLength.Statement .rlcL := fun _ => rfl
theorem EncodedLength.rlcA : EncodedLength.Statement .rlcA := fun _ => rfl
theorem EncodedLength.rlca : EncodedLength.Statement .rlca := fun _ => rfl
theorem EncodedLength.rrAtHL : EncodedLength.Statement .rrAtHL := fun _ => rfl
theorem EncodedLength.rrB : EncodedLength.Statement .rrB := fun _ => rfl
theorem EncodedLength.rrC : EncodedLength.Statement .rrC := fun _ => rfl
theorem EncodedLength.rrD : EncodedLength.Statement .rrD := fun _ => rfl
theorem EncodedLength.rrE : EncodedLength.Statement .rrE := fun _ => rfl
theorem EncodedLength.rrH : EncodedLength.Statement .rrH := fun _ => rfl
theorem EncodedLength.rrL : EncodedLength.Statement .rrL := fun _ => rfl
theorem EncodedLength.rrA : EncodedLength.Statement .rrA := fun _ => rfl
theorem EncodedLength.rrDE : EncodedLength.Statement .rrDE := fun _ => rfl
theorem EncodedLength.rrHL : EncodedLength.Statement .rrHL := fun _ => rfl
theorem EncodedLength.rrIX : EncodedLength.Statement .rrIX := fun _ => rfl
theorem EncodedLength.rrIY : EncodedLength.Statement .rrIY := fun _ => rfl
theorem EncodedLength.rra : EncodedLength.Statement .rra := fun _ => rfl
theorem EncodedLength.rrcAtHL : EncodedLength.Statement .rrcAtHL := fun _ => rfl
theorem EncodedLength.rrcB : EncodedLength.Statement .rrcB := fun _ => rfl
theorem EncodedLength.rrcC : EncodedLength.Statement .rrcC := fun _ => rfl
theorem EncodedLength.rrcD : EncodedLength.Statement .rrcD := fun _ => rfl
theorem EncodedLength.rrcE : EncodedLength.Statement .rrcE := fun _ => rfl
theorem EncodedLength.rrcH : EncodedLength.Statement .rrcH := fun _ => rfl
theorem EncodedLength.rrcL : EncodedLength.Statement .rrcL := fun _ => rfl
theorem EncodedLength.rrcA : EncodedLength.Statement .rrcA := fun _ => rfl
theorem EncodedLength.rrca : EncodedLength.Statement .rrca := fun _ => rfl
theorem EncodedLength.slaAtHL : EncodedLength.Statement .slaAtHL := fun _ => rfl
theorem EncodedLength.slaB : EncodedLength.Statement .slaB := fun _ => rfl
theorem EncodedLength.slaC : EncodedLength.Statement .slaC := fun _ => rfl
theorem EncodedLength.slaD : EncodedLength.Statement .slaD := fun _ => rfl
theorem EncodedLength.slaE : EncodedLength.Statement .slaE := fun _ => rfl
theorem EncodedLength.slaH : EncodedLength.Statement .slaH := fun _ => rfl
theorem EncodedLength.slaL : EncodedLength.Statement .slaL := fun _ => rfl
theorem EncodedLength.slaA : EncodedLength.Statement .slaA := fun _ => rfl
theorem EncodedLength.sraAtHL : EncodedLength.Statement .sraAtHL := fun _ => rfl
theorem EncodedLength.sraB : EncodedLength.Statement .sraB := fun _ => rfl
theorem EncodedLength.sraC : EncodedLength.Statement .sraC := fun _ => rfl
theorem EncodedLength.sraD : EncodedLength.Statement .sraD := fun _ => rfl
theorem EncodedLength.sraE : EncodedLength.Statement .sraE := fun _ => rfl
theorem EncodedLength.sraH : EncodedLength.Statement .sraH := fun _ => rfl
theorem EncodedLength.sraL : EncodedLength.Statement .sraL := fun _ => rfl
theorem EncodedLength.sraA : EncodedLength.Statement .sraA := fun _ => rfl
theorem EncodedLength.srlAtHL : EncodedLength.Statement .srlAtHL := fun _ => rfl
theorem EncodedLength.srlB : EncodedLength.Statement .srlB := fun _ => rfl
theorem EncodedLength.srlC : EncodedLength.Statement .srlC := fun _ => rfl
theorem EncodedLength.srlD : EncodedLength.Statement .srlD := fun _ => rfl
theorem EncodedLength.srlE : EncodedLength.Statement .srlE := fun _ => rfl
theorem EncodedLength.srlH : EncodedLength.Statement .srlH := fun _ => rfl
theorem EncodedLength.srlL : EncodedLength.Statement .srlL := fun _ => rfl
theorem EncodedLength.srlA : EncodedLength.Statement .srlA := fun _ => rfl
theorem EncodedLength.rdmode : EncodedLength.Statement .rdmode := fun _ => rfl
theorem EncodedLength.setusr : EncodedLength.Statement .setusr := fun _ => rfl
theorem EncodedLength.sures : EncodedLength.Statement .sures := fun _ => rfl

end Sys2Proof.Laws
end

