-- ==== Sys2Proof/Laws/Results.lean ====
section
/-! SUPPORT. The ends of the meanings as record updates, in the form the result statements have. -/

namespace Sys2Proof.Machine

/-- Flags written last are an update of F and the draw count, the values those of the state before. -/
theorem State.putFlags_update (s x : State) (w : FlagWrites) (hf : x.f = s.f) (hd : x.draws = s.draws)
    (hc : x.config = s.config) :
    x.putFlags w = { x with f := (s.putFlags w).f, draws := (s.putFlags w).draws } := by
  rw [State.putFlags_eq x w, (State.putFlags_congr s x w hf hd hc).1, (State.putFlags_congr s x w hf hd hc).2]

/-- Flags written and pc advanced last, as one update. -/
theorem State.putFlags_advance (s x : State) (w : FlagWrites) (len : Word) (hf : x.f = s.f) (hd : x.draws = s.draws)
    (hc : x.config = s.config) :
    (x.putFlags w).advance len =
      { x with f := (s.putFlags w).f, draws := (s.putFlags w).draws, pc := x.pc + len } := by
  rw [State.putFlags_update s x w hf hd hc]; rfl

/-- One write to memory stores one byte. -/
theorem Memory.write_stored (m : Memory) (p : Addr20) (v : Byte) : Stored m (m.write p v) p v := by
  intro q; simp [Memory.read_write]

/-- Two writes to memory store two bytes, the later over the earlier. -/
theorem Memory.write_storedTwo (m : Memory) (p p' : Addr20) (v v' : Byte) :
    StoredTwo m ((m.write p v).write p' v') p v p' v' := by
  intro q; simp [Memory.read_write]

/-- The machine's address of a memory operand is the one address the operand has. -/
theorem State.addressOf_iff (s : State) (m : MemArg) (a : Word) : AddressOf s m a ↔ a = s.ea m := by
  have indexed (x : Word) (d : Byte) :
      (a.toNat : Int) = (x.toNat + d.toInt) % 65536 ↔ a = x + d.signExtend 16 := by
    have h : ((x + d.signExtend 16).toNat : Int) = (x.toNat + d.toInt) % 65536 := by
      have e : (d.signExtend 16).toInt = d.toInt := BitVec.toInt_signExtend_of_le (by omega)
      rw [BitVec.toInt_eq_toNat_cond] at e
      rw [BitVec.toNat_add, ← e]
      split <;> omega
    rw [← h, Int.natCast_inj, BitVec.toNat_inj]
  rcases m with _ | ⟨_ | _, d⟩
  · exact Iff.rfl
  · exact indexed s.ix d
  · exact indexed s.iy d

end Sys2Proof.Machine
end

