-- ==== Sys2Proof/Machine/Timing.lean ====
section
/-! DEFINITION. The clock counts as printed (70_reset_and_hazards.md R362) and their additions for an I/O prefix
(R363). A table only: no step reads it, the machine has no time state (R333, R360; log 29). -/

namespace Sys2Proof.Machine

/-- A clocking line: the clocks of each bus cycle (R360). -/
inductive Clocking where
  /-- One count. -/
  | plain (cycles : List Nat)
  /-- RET f: the counts of a false and of a true condition (R361). -/
  | conditional (notTaken taken : List Nat)
  /-- A repeating instruction: the cycles before, of each iteration, and after, and its I/O prefix. The fetch of a
  prefix byte stands nowhere: it adds no clock here (DESIGN CHOICE, log 41). -/
  | repeating (before each after : List Nat) (ioPrefix : Option IoSpace)
deriving DecidableEq, Repr

/-- What an I/O prefix adds (R363). The sentence says "for each iteration" of IOI alone. That the addition for IOE is
made in each iteration too is the model's reading (DESIGN CHOICE, log 42). -/
def prefixClocks (waitStates : Nat) : Option IoSpace → Nat
  | none => 0
  | some .internal => 1
  | some .external => 2 + waitStates

/-- The total of a clocking line: `taken` for RET f, `iterations` for a repeating instruction, `waitStates` the
parameter IO_WAIT_STATES (R9). Two points R363 leaves open are settled here by the model: the prefix byte itself costs
no fetch (DESIGN CHOICE, log 41), and the addition for IOE, like that for IOI, is made in each iteration (DESIGN
CHOICE, log 42). -/
def Clocking.total (taken : Bool) (iterations waitStates : Nat) : Clocking → Nat
  | .plain cycles => cycles.sum
  | .conditional no yes => if taken then yes.sum else no.sum
  | .repeating before each after io =>
    before.sum + iterations * (each.sum + prefixClocks waitStates io) + after.sum

/-- The clocking line of each instruction (R362). POP SU and RST v are as printed (C9). A prefixed block copy has the
cycles of the bare one, so its prefix byte costs no fetch (R363 does not say; DESIGN CHOICE, log 41). -/
def clocking : Instr → Clocking
  | .ldpAtMnHL _ | .ldpAtMnIX _ | .ldpAtMnIY _ => .plain [2, 2, 2, 2, 1, 3, 3]
  | .ldpHLAtMn _ | .ldpIXAtMn _ | .ldpIYAtMn _ => .plain [2, 2, 2, 2, 1, 2, 2]
  | .ljp _ _ | .ldpHLAtHL | .ldpHLAtIX | .ldpHLAtIY => .plain [2, 2, 2, 2, 2]
  | .subAtIXd _ | .subAtIYd _ | .sbcAtIXd _ | .sbcAtIYd _ | .orAtIXd _ | .orAtIYd _
  | .xorAtIXd _ | .xorAtIYd _ => .plain [2, 2, 2, 1, 2]
  | .subN _ | .sbcAN _ | .orN _ | .xorN _ | .neg | .sbcHLBC
  | .sbcHLDE | .sbcHLHL | .sbcHLSP | .orIXDE | .orIYDE | .res0B
  | .res0C | .res0D | .res0E | .res0H | .res0L | .res0A
  | .res1B | .res1C | .res1D | .res1E | .res1H | .res1L
  | .res1A | .res2B | .res2C | .res2D | .res2E | .res2H
  | .res2L | .res2A | .res3B | .res3C | .res3D | .res3E
  | .res3H | .res3L | .res3A | .res4B | .res4C | .res4D
  | .res4E | .res4H | .res4L | .res4A | .res5B | .res5C
  | .res5D | .res5E | .res5H | .res5L | .res5A | .res6B
  | .res6C | .res6D | .res6E | .res6H | .res6L | .res6A
  | .res7B | .res7C | .res7D | .res7E | .res7H | .res7L
  | .res7A | .set0B | .set0C | .set0D | .set0E | .set0H
  | .set0L | .set0A | .set1B | .set1C | .set1D | .set1E
  | .set1H | .set1L | .set1A | .set2B | .set2C | .set2D
  | .set2E | .set2H | .set2L | .set2A | .set3B | .set3C
  | .set3D | .set3E | .set3H | .set3L | .set3A | .set4B
  | .set4C | .set4D | .set4E | .set4H | .set4L | .set4A
  | .set5B | .set5C | .set5D | .set5E | .set5H | .set5L
  | .set5A | .set6B | .set6C | .set6D | .set6E | .set6H
  | .set6L | .set6A | .set7B | .set7C | .set7D | .set7E
  | .set7H | .set7L | .set7A | .rlB | .rlC | .rlD
  | .rlE | .rlH | .rlL | .rlA | .rlcB | .rlcC
  | .rlcD | .rlcE | .rlcH | .rlcL | .rlcA | .rrB
  | .rrC | .rrD | .rrE | .rrH | .rrL | .rrA
  | .rrIX | .rrIY | .rrcB | .rrcC | .rrcD | .rrcE
  | .rrcH | .rrcL | .rrcA | .slaB | .slaC | .slaD
  | .slaE | .slaH | .slaL | .slaA | .sraB | .sraC
  | .sraD | .sraE | .sraH | .sraL | .sraA | .srlB
  | .srlC | .srlD | .srlE | .srlH | .srlL | .srlA
  | .rdmode | .setusr | .sures => .plain [2, 2]
  | .res0AtIXd _ | .res1AtIXd _ | .res2AtIXd _ | .res3AtIXd _ | .res4AtIXd _ | .res5AtIXd _
  | .res6AtIXd _ | .res7AtIXd _ | .res0AtIYd _ | .res1AtIYd _ | .res2AtIYd _ | .res3AtIYd _
  | .res4AtIYd _ | .res5AtIYd _ | .res6AtIYd _ | .res7AtIYd _ | .set0AtIXd _ | .set1AtIXd _
  | .set2AtIXd _ | .set3AtIXd _ | .set4AtIXd _ | .set5AtIXd _ | .set6AtIXd _ | .set7AtIXd _
  | .set0AtIYd _ | .set1AtIYd _ | .set2AtIYd _ | .set3AtIYd _ | .set4AtIYd _ | .set5AtIYd _
  | .set6AtIYd _ | .set7AtIYd _ | .rlAtIXd _ | .rlAtIYd _ | .rlcAtIXd _ | .rlcAtIYd _
  | .rrAtIXd _ | .rrAtIYd _ | .rrcAtIXd _ | .rrcAtIYd _ | .slaAtIXd _ | .slaAtIYd _
  | .sraAtIXd _ | .sraAtIYd _ | .srlAtIXd _ | .srlAtIYd _ => .plain [2, 2, 2, 2, 2, 3]
  | .ldpAtHLHL | .ldpAtIXHL | .ldpAtIYHL | .pushIX | .pushIY => .plain [2, 2, 2, 3, 3]
  | .lret => .plain [2, 2, 1, 2, 2, 2, 2]
  | .ret => .plain [2, 1, 2, 2, 1]
  | .retNZ | .retZ | .retNC | .retC | .retLZ | .retLO
  | .retP | .retM => .conditional [2] [2, 1, 2, 2, 1]
  | .reti => .plain [2, 2, 1, 2, 2, 2, 1]
  | .rst10 | .rst18 | .rst20 | .rst28 | .rst38 => .plain [2, 2, 2, 2]
  | .syscall | .pushAF | .pushBC | .pushDE | .pushHL => .plain [2, 2, 3, 3]
  | .lsdr | .lsir | .lsddr | .lsidr => .repeating [2, 2, 1] [2, 3, 2] [1] none
  | .ioiLsdr | .ioiLsir | .ioiLsddr | .ioiLsidr => .repeating [2, 2, 1] [2, 3, 2] [1] (some .internal)
  | .ioeLsdr | .ioeLsir | .ioeLsddr | .ioeLsidr => .repeating [2, 2, 1] [2, 3, 2] [1] (some .external)
  | .uma | .ums => .repeating [2, 2, 2] [2, 2, 3, 1] [2] none
  | .mul => .plain [2, 10]
  | .subAtHL | .sbcAAtHL | .orAtHL | .xorAtHL => .plain [2, 1, 2]
  | .subB | .subC | .subD | .subE | .subH | .subL
  | .subA | .sbcAB | .sbcAC | .sbcAD | .sbcAE | .sbcAH
  | .sbcAL | .sbcAA | .nop | .orHLDE | .orB | .orC
  | .orD | .orE | .orH | .orL | .orA | .xorB
  | .xorC | .xorD | .xorE | .xorH | .xorL | .xorA
  | .scf | .rlDE | .rla | .rlca | .rrDE | .rrHL
  | .rra | .rrca => .plain [2]
  | .popIP => .plain [2, 2, 1, 2]
  | .popIX | .popIY => .plain [2, 2, 1, 2, 2]
  | .popSU | .pushIP | .pushSU => .plain [2, 2, 2, 3]
  | .popAF | .popBC | .popDE | .popHL => .plain [2, 1, 2, 2]
  | .res0AtHL | .res1AtHL | .res2AtHL | .res3AtHL | .res4AtHL | .res5AtHL
  | .res6AtHL | .res7AtHL | .set0AtHL | .set1AtHL | .set2AtHL | .set3AtHL
  | .set4AtHL | .set5AtHL | .set6AtHL | .set7AtHL | .rlAtHL | .rlcAtHL
  | .rrAtHL | .rrcAtHL | .slaAtHL | .sraAtHL | .srlAtHL => .plain [2, 2, 1, 2, 3]

end Sys2Proof.Machine
end

