-- ==== Sys2Proof/Tests/Slice0.lean ====
section
/-! SUPPORT. Tests: the well-formedness check, words written out from the spec's encodings, single steps taken from the
spec's test vectors (95_test_vectors.md, named by their number), and for every statement with hypotheses a concrete
state and operands that meet them. -/

namespace Sys2Proof.Machine

/-! ## Helpers -/

/-- Bytes at physical addresses. -/
def State.put (s : State) (bytes : List (Nat × Byte)) : State :=
  bytes.foldl (fun s p => s.writePhys (BitVec.ofNat 20 p.1) p.2) s

end Sys2Proof.Machine

namespace Sys2Proof.Tests

open Sys2Proof.Machine

/-- The state the spec's vectors start from (95_test_vectors.md, its conventions). -/
def base : State := { State.reset with pc := 0x4000, sp := 0xD000, ip := 0x00 }

/-- `s` with an instruction's bytes at pc. -/
def starting (bytes : List Byte) (s : State) : State := s.placeBytes s.pc bytes

/-- One step of the instruction with these bytes, from `s`, changes the state as `change` does. -/
abbrev gives (bytes : List Byte) (s : State) (change : State → State) : Prop :=
  (match step (starting bytes s) with
    | .next t => t == change (starting bytes s)
    | _ => false) = true

/-- The outcome is this refusal. -/
abbrev refusedAs (o : Out) (r : Refusal) : Prop :=
  (match o with
    | .refused r' => r' == r
    | _ => false) = true

/-- Each word decodes to its instruction, with nothing left over. -/
def reads (rows : List (List Byte × Instr)) : Bool :=
  rows.all fun row => match decode true row.1 with
    | .ok (i, []) => i == row.2
    | _ => false

/-- No word decodes on this part. -/
def refuses (is3000A : Bool) (words : List (List Byte)) : Bool :=
  words.all fun bytes => match decode is3000A bytes with
    | .ok _ => false
    | .error _ => true

/-! ## Well-formedness -/

/-- The one check refuses each of the twenty rows of level R3000A on a part without them (R6). -/
theorem test_wellFormed_refuses :
    ([.syscall, .lsdr, .ioiLsdr, .ioeLsdr, .lsir, .ioiLsir, .ioeLsir, .lsddr, .ioiLsddr, .ioeLsddr, .lsidr, .ioiLsidr,
      .ioeLsidr, .uma, .ums, .popSU, .pushSU, .rdmode, .setusr, .sures] : List Instr).all
      (fun i => !i.wellFormed false && i.wellFormed true) = true := by decide

/-- Rows of level BASE are instructions of both parts. -/
theorem test_wellFormed_accepts :
    ([.nop, .popIP, .pushIP, .reti, .mul, .ljp 0x08 0xF234, .rst38] : List Instr).all
      (fun i => i.wellFormed false && i.wellFormed true) = true := by decide

/-! ## Words written out, bit by bit, from the encodings (operands n = 34, m = F2, x = 08, d = FE) -/

/-- 12 rows. -/
theorem test_decode_ldp : reads
    [([0b11101101, 0b01100100], .ldpAtHLHL), ([0b11011101, 0b01100100], .ldpAtIXHL),
     ([0b11111101, 0b01100100], .ldpAtIYHL), ([0b11101101, 0b01100101, 0x34, 0xF2], .ldpAtMnHL 0xF234),
     ([0b11011101, 0b01100101, 0x34, 0xF2], .ldpAtMnIX 0xF234),
     ([0b11111101, 0b01100101, 0x34, 0xF2], .ldpAtMnIY 0xF234), ([0b11101101, 0b01101100], .ldpHLAtHL),
     ([0b11011101, 0b01101100], .ldpHLAtIX), ([0b11111101, 0b01101100], .ldpHLAtIY),
     ([0b11101101, 0b01101101, 0x34, 0xF2], .ldpHLAtMn 0xF234),
     ([0b11011101, 0b01101101, 0x34, 0xF2], .ldpIXAtMn 0xF234),
     ([0b11111101, 0b01101101, 0x34, 0xF2], .ldpIYAtMn 0xF234)] = true := by decide

/-- 18 rows. -/
theorem test_decode_control : reads
    [([0b11000111, 0x34, 0xF2, 0x08], .ljp 0x08 0xF234), ([0b11101101, 0b01000101], .lret), ([0b11001001], .ret),
     ([0b11000000], .retNZ), ([0b11001000], .retZ), ([0b11010000], .retNC), ([0b11011000], .retC),
     ([0b11100000], .retLZ), ([0b11101000], .retLO), ([0b11110000], .retP), ([0b11111000], .retM),
     ([0b11101101, 0b01001101], .reti), ([0b11010111], .rst10), ([0b11011111], .rst18), ([0b11100111], .rst20),
     ([0b11101111], .rst28), ([0b11111111], .rst38), ([0b11101101, 0b01110101], .syscall)] = true := by decide

/-- 14 rows. -/
theorem test_decode_block : reads
    [([0b11101101, 0b11111000], .lsdr), ([0b11010011, 0b11101101, 0b11111000], .ioiLsdr),
     ([0b11011011, 0b11101101, 0b11111000], .ioeLsdr), ([0b11101101, 0b11110000], .lsir),
     ([0b11010011, 0b11101101, 0b11110000], .ioiLsir), ([0b11011011, 0b11101101, 0b11110000], .ioeLsir),
     ([0b11101101, 0b11011000], .lsddr), ([0b11010011, 0b11101101, 0b11011000], .ioiLsddr),
     ([0b11011011, 0b11101101, 0b11011000], .ioeLsddr), ([0b11101101, 0b11010000], .lsidr),
     ([0b11010011, 0b11101101, 0b11010000], .ioiLsidr), ([0b11011011, 0b11101101, 0b11010000], .ioeLsidr),
     ([0b11101101, 0b11000000], .uma), ([0b11101101, 0b11001000], .ums)] = true := by decide

/-- 28 rows. -/
theorem test_decode_arithmetic : reads
    [([0b11110111], .mul), ([0b11101101, 0b01000100], .neg), ([0b10010110], .subAtHL),
     ([0b11011101, 0b10010110, 0xFE], .subAtIXd 0xFE), ([0b11111101, 0b10010110, 0xFE], .subAtIYd 0xFE),
     ([0b11010110, 0x34], .subN 0x34), ([0b10010000], .subB), ([0b10010001], .subC), ([0b10010010], .subD),
     ([0b10010011], .subE), ([0b10010100], .subH), ([0b10010101], .subL), ([0b10010111], .subA),
     ([0b10011110], .sbcAAtHL), ([0b11011101, 0b10011110, 0xFE], .sbcAtIXd 0xFE),
     ([0b11111101, 0b10011110, 0xFE], .sbcAtIYd 0xFE), ([0b11011110, 0x34], .sbcAN 0x34), ([0b10011000], .sbcAB),
     ([0b10011001], .sbcAC), ([0b10011010], .sbcAD), ([0b10011011], .sbcAE), ([0b10011100], .sbcAH),
     ([0b10011101], .sbcAL), ([0b10011111], .sbcAA), ([0b11101101, 0b01000010], .sbcHLBC),
     ([0b11101101, 0b01010010], .sbcHLDE), ([0b11101101, 0b01100010], .sbcHLHL),
     ([0b11101101, 0b01110010], .sbcHLSP)] = true := by decide

/-- 27 rows. -/
theorem test_decode_logic : reads
    [([0b00000000], .nop), ([0b10110110], .orAtHL), ([0b11011101, 0b10110110, 0xFE], .orAtIXd 0xFE),
     ([0b11111101, 0b10110110, 0xFE], .orAtIYd 0xFE), ([0b11101100], .orHLDE), ([0b11011101, 0b11101100], .orIXDE),
     ([0b11111101, 0b11101100], .orIYDE), ([0b11110110, 0x34], .orN 0x34), ([0b10110000], .orB),
     ([0b10110001], .orC), ([0b10110010], .orD), ([0b10110011], .orE), ([0b10110100], .orH), ([0b10110101], .orL),
     ([0b10110111], .orA), ([0b10101110], .xorAtHL), ([0b11011101, 0b10101110, 0xFE], .xorAtIXd 0xFE),
     ([0b11111101, 0b10101110, 0xFE], .xorAtIYd 0xFE), ([0b11101110, 0x34], .xorN 0x34), ([0b10101000], .xorB),
     ([0b10101001], .xorC), ([0b10101010], .xorD), ([0b10101011], .xorE), ([0b10101100], .xorH),
     ([0b10101101], .xorL), ([0b10101111], .xorA), ([0b00110111], .scf)] = true := by decide

/-- 16 rows. -/
theorem test_decode_stack : reads
    [([0b11101101, 0b01111110], .popIP), ([0b11011101, 0b11100001], .popIX), ([0b11111101, 0b11100001], .popIY),
     ([0b11101101, 0b01101110], .popSU), ([0b11110001], .popAF), ([0b11000001], .popBC), ([0b11010001], .popDE),
     ([0b11100001], .popHL), ([0b11101101, 0b01110110], .pushIP), ([0b11011101, 0b11100101], .pushIX),
     ([0b11111101, 0b11100101], .pushIY), ([0b11110101], .pushAF), ([0b11000101], .pushBC), ([0b11010101], .pushDE),
     ([0b11100101], .pushHL), ([0b11101101, 0b01100110], .pushSU)] = true := by decide

/-- 3 rows. -/
theorem test_decode_system : reads
    [([0b11101101, 0b01111111], .rdmode), ([0b11101101, 0b01101111], .setusr),
     ([0b11101101, 0b01111101], .sures)] = true := by decide

/-- 24 rows. -/
theorem test_decode_res_memory : reads
    [([0b11001011, 0b10000110], .res0AtHL), ([0b11001011, 0b10001110], .res1AtHL),
     ([0b11001011, 0b10010110], .res2AtHL), ([0b11001011, 0b10011110], .res3AtHL),
     ([0b11001011, 0b10100110], .res4AtHL), ([0b11001011, 0b10101110], .res5AtHL),
     ([0b11001011, 0b10110110], .res6AtHL), ([0b11001011, 0b10111110], .res7AtHL),
     ([0b11011101, 0b11001011, 0xFE, 0b10000110], .res0AtIXd 0xFE),
     ([0b11011101, 0b11001011, 0xFE, 0b10001110], .res1AtIXd 0xFE),
     ([0b11011101, 0b11001011, 0xFE, 0b10010110], .res2AtIXd 0xFE),
     ([0b11011101, 0b11001011, 0xFE, 0b10011110], .res3AtIXd 0xFE),
     ([0b11011101, 0b11001011, 0xFE, 0b10100110], .res4AtIXd 0xFE),
     ([0b11011101, 0b11001011, 0xFE, 0b10101110], .res5AtIXd 0xFE),
     ([0b11011101, 0b11001011, 0xFE, 0b10110110], .res6AtIXd 0xFE),
     ([0b11011101, 0b11001011, 0xFE, 0b10111110], .res7AtIXd 0xFE),
     ([0b11111101, 0b11001011, 0xFE, 0b10000110], .res0AtIYd 0xFE),
     ([0b11111101, 0b11001011, 0xFE, 0b10001110], .res1AtIYd 0xFE),
     ([0b11111101, 0b11001011, 0xFE, 0b10010110], .res2AtIYd 0xFE),
     ([0b11111101, 0b11001011, 0xFE, 0b10011110], .res3AtIYd 0xFE),
     ([0b11111101, 0b11001011, 0xFE, 0b10100110], .res4AtIYd 0xFE),
     ([0b11111101, 0b11001011, 0xFE, 0b10101110], .res5AtIYd 0xFE),
     ([0b11111101, 0b11001011, 0xFE, 0b10110110], .res6AtIYd 0xFE),
     ([0b11111101, 0b11001011, 0xFE, 0b10111110], .res7AtIYd 0xFE)] = true := by decide

/-- 56 rows. -/
theorem test_decode_res_register : reads
    [([0b11001011, 0b10000000], .res0B), ([0b11001011, 0b10000001], .res0C), ([0b11001011, 0b10000010], .res0D),
     ([0b11001011, 0b10000011], .res0E), ([0b11001011, 0b10000100], .res0H), ([0b11001011, 0b10000101], .res0L),
     ([0b11001011, 0b10000111], .res0A), ([0b11001011, 0b10001000], .res1B), ([0b11001011, 0b10001001], .res1C),
     ([0b11001011, 0b10001010], .res1D), ([0b11001011, 0b10001011], .res1E), ([0b11001011, 0b10001100], .res1H),
     ([0b11001011, 0b10001101], .res1L), ([0b11001011, 0b10001111], .res1A), ([0b11001011, 0b10010000], .res2B),
     ([0b11001011, 0b10010001], .res2C), ([0b11001011, 0b10010010], .res2D), ([0b11001011, 0b10010011], .res2E),
     ([0b11001011, 0b10010100], .res2H), ([0b11001011, 0b10010101], .res2L), ([0b11001011, 0b10010111], .res2A),
     ([0b11001011, 0b10011000], .res3B), ([0b11001011, 0b10011001], .res3C), ([0b11001011, 0b10011010], .res3D),
     ([0b11001011, 0b10011011], .res3E), ([0b11001011, 0b10011100], .res3H), ([0b11001011, 0b10011101], .res3L),
     ([0b11001011, 0b10011111], .res3A), ([0b11001011, 0b10100000], .res4B), ([0b11001011, 0b10100001], .res4C),
     ([0b11001011, 0b10100010], .res4D), ([0b11001011, 0b10100011], .res4E), ([0b11001011, 0b10100100], .res4H),
     ([0b11001011, 0b10100101], .res4L), ([0b11001011, 0b10100111], .res4A), ([0b11001011, 0b10101000], .res5B),
     ([0b11001011, 0b10101001], .res5C), ([0b11001011, 0b10101010], .res5D), ([0b11001011, 0b10101011], .res5E),
     ([0b11001011, 0b10101100], .res5H), ([0b11001011, 0b10101101], .res5L), ([0b11001011, 0b10101111], .res5A),
     ([0b11001011, 0b10110000], .res6B), ([0b11001011, 0b10110001], .res6C), ([0b11001011, 0b10110010], .res6D),
     ([0b11001011, 0b10110011], .res6E), ([0b11001011, 0b10110100], .res6H), ([0b11001011, 0b10110101], .res6L),
     ([0b11001011, 0b10110111], .res6A), ([0b11001011, 0b10111000], .res7B), ([0b11001011, 0b10111001], .res7C),
     ([0b11001011, 0b10111010], .res7D), ([0b11001011, 0b10111011], .res7E), ([0b11001011, 0b10111100], .res7H),
     ([0b11001011, 0b10111101], .res7L), ([0b11001011, 0b10111111], .res7A)] = true := by decide

/-- 24 rows. -/
theorem test_decode_set_memory : reads
    [([0b11001011, 0b11000110], .set0AtHL), ([0b11001011, 0b11001110], .set1AtHL),
     ([0b11001011, 0b11010110], .set2AtHL), ([0b11001011, 0b11011110], .set3AtHL),
     ([0b11001011, 0b11100110], .set4AtHL), ([0b11001011, 0b11101110], .set5AtHL),
     ([0b11001011, 0b11110110], .set6AtHL), ([0b11001011, 0b11111110], .set7AtHL),
     ([0b11011101, 0b11001011, 0xFE, 0b11000110], .set0AtIXd 0xFE),
     ([0b11011101, 0b11001011, 0xFE, 0b11001110], .set1AtIXd 0xFE),
     ([0b11011101, 0b11001011, 0xFE, 0b11010110], .set2AtIXd 0xFE),
     ([0b11011101, 0b11001011, 0xFE, 0b11011110], .set3AtIXd 0xFE),
     ([0b11011101, 0b11001011, 0xFE, 0b11100110], .set4AtIXd 0xFE),
     ([0b11011101, 0b11001011, 0xFE, 0b11101110], .set5AtIXd 0xFE),
     ([0b11011101, 0b11001011, 0xFE, 0b11110110], .set6AtIXd 0xFE),
     ([0b11011101, 0b11001011, 0xFE, 0b11111110], .set7AtIXd 0xFE),
     ([0b11111101, 0b11001011, 0xFE, 0b11000110], .set0AtIYd 0xFE),
     ([0b11111101, 0b11001011, 0xFE, 0b11001110], .set1AtIYd 0xFE),
     ([0b11111101, 0b11001011, 0xFE, 0b11010110], .set2AtIYd 0xFE),
     ([0b11111101, 0b11001011, 0xFE, 0b11011110], .set3AtIYd 0xFE),
     ([0b11111101, 0b11001011, 0xFE, 0b11100110], .set4AtIYd 0xFE),
     ([0b11111101, 0b11001011, 0xFE, 0b11101110], .set5AtIYd 0xFE),
     ([0b11111101, 0b11001011, 0xFE, 0b11110110], .set6AtIYd 0xFE),
     ([0b11111101, 0b11001011, 0xFE, 0b11111110], .set7AtIYd 0xFE)] = true := by decide

/-- 56 rows. -/
theorem test_decode_set_register : reads
    [([0b11001011, 0b11000000], .set0B), ([0b11001011, 0b11000001], .set0C), ([0b11001011, 0b11000010], .set0D),
     ([0b11001011, 0b11000011], .set0E), ([0b11001011, 0b11000100], .set0H), ([0b11001011, 0b11000101], .set0L),
     ([0b11001011, 0b11000111], .set0A), ([0b11001011, 0b11001000], .set1B), ([0b11001011, 0b11001001], .set1C),
     ([0b11001011, 0b11001010], .set1D), ([0b11001011, 0b11001011], .set1E), ([0b11001011, 0b11001100], .set1H),
     ([0b11001011, 0b11001101], .set1L), ([0b11001011, 0b11001111], .set1A), ([0b11001011, 0b11010000], .set2B),
     ([0b11001011, 0b11010001], .set2C), ([0b11001011, 0b11010010], .set2D), ([0b11001011, 0b11010011], .set2E),
     ([0b11001011, 0b11010100], .set2H), ([0b11001011, 0b11010101], .set2L), ([0b11001011, 0b11010111], .set2A),
     ([0b11001011, 0b11011000], .set3B), ([0b11001011, 0b11011001], .set3C), ([0b11001011, 0b11011010], .set3D),
     ([0b11001011, 0b11011011], .set3E), ([0b11001011, 0b11011100], .set3H), ([0b11001011, 0b11011101], .set3L),
     ([0b11001011, 0b11011111], .set3A), ([0b11001011, 0b11100000], .set4B), ([0b11001011, 0b11100001], .set4C),
     ([0b11001011, 0b11100010], .set4D), ([0b11001011, 0b11100011], .set4E), ([0b11001011, 0b11100100], .set4H),
     ([0b11001011, 0b11100101], .set4L), ([0b11001011, 0b11100111], .set4A), ([0b11001011, 0b11101000], .set5B),
     ([0b11001011, 0b11101001], .set5C), ([0b11001011, 0b11101010], .set5D), ([0b11001011, 0b11101011], .set5E),
     ([0b11001011, 0b11101100], .set5H), ([0b11001011, 0b11101101], .set5L), ([0b11001011, 0b11101111], .set5A),
     ([0b11001011, 0b11110000], .set6B), ([0b11001011, 0b11110001], .set6C), ([0b11001011, 0b11110010], .set6D),
     ([0b11001011, 0b11110011], .set6E), ([0b11001011, 0b11110100], .set6H), ([0b11001011, 0b11110101], .set6L),
     ([0b11001011, 0b11110111], .set6A), ([0b11001011, 0b11111000], .set7B), ([0b11001011, 0b11111001], .set7C),
     ([0b11001011, 0b11111010], .set7D), ([0b11001011, 0b11111011], .set7E), ([0b11001011, 0b11111100], .set7H),
     ([0b11001011, 0b11111101], .set7L), ([0b11001011, 0b11111111], .set7A)] = true := by decide

/-- 79 rows. -/
theorem test_decode_rotate_shift : reads
    [([0b11001011, 0b00010110], .rlAtHL), ([0b11011101, 0b11001011, 0xFE, 0b00010110], .rlAtIXd 0xFE),
     ([0b11111101, 0b11001011, 0xFE, 0b00010110], .rlAtIYd 0xFE), ([0b11001011, 0b00010000], .rlB),
     ([0b11001011, 0b00010001], .rlC), ([0b11001011, 0b00010010], .rlD), ([0b11001011, 0b00010011], .rlE),
     ([0b11001011, 0b00010100], .rlH), ([0b11001011, 0b00010101], .rlL), ([0b11001011, 0b00010111], .rlA),
     ([0b11110011], .rlDE), ([0b00010111], .rla), ([0b11001011, 0b00000110], .rlcAtHL),
     ([0b11011101, 0b11001011, 0xFE, 0b00000110], .rlcAtIXd 0xFE),
     ([0b11111101, 0b11001011, 0xFE, 0b00000110], .rlcAtIYd 0xFE), ([0b11001011, 0b00000000], .rlcB),
     ([0b11001011, 0b00000001], .rlcC), ([0b11001011, 0b00000010], .rlcD), ([0b11001011, 0b00000011], .rlcE),
     ([0b11001011, 0b00000100], .rlcH), ([0b11001011, 0b00000101], .rlcL), ([0b11001011, 0b00000111], .rlcA),
     ([0b00000111], .rlca), ([0b11001011, 0b00011110], .rrAtHL),
     ([0b11011101, 0b11001011, 0xFE, 0b00011110], .rrAtIXd 0xFE),
     ([0b11111101, 0b11001011, 0xFE, 0b00011110], .rrAtIYd 0xFE), ([0b11001011, 0b00011000], .rrB),
     ([0b11001011, 0b00011001], .rrC), ([0b11001011, 0b00011010], .rrD), ([0b11001011, 0b00011011], .rrE),
     ([0b11001011, 0b00011100], .rrH), ([0b11001011, 0b00011101], .rrL), ([0b11001011, 0b00011111], .rrA),
     ([0b11111011], .rrDE), ([0b11111100], .rrHL), ([0b11011101, 0b11111100], .rrIX),
     ([0b11111101, 0b11111100], .rrIY), ([0b00011111], .rra), ([0b11001011, 0b00001110], .rrcAtHL),
     ([0b11011101, 0b11001011, 0xFE, 0b00001110], .rrcAtIXd 0xFE),
     ([0b11111101, 0b11001011, 0xFE, 0b00001110], .rrcAtIYd 0xFE), ([0b11001011, 0b00001000], .rrcB),
     ([0b11001011, 0b00001001], .rrcC), ([0b11001011, 0b00001010], .rrcD), ([0b11001011, 0b00001011], .rrcE),
     ([0b11001011, 0b00001100], .rrcH), ([0b11001011, 0b00001101], .rrcL), ([0b11001011, 0b00001111], .rrcA),
     ([0b00001111], .rrca), ([0b11001011, 0b00100110], .slaAtHL),
     ([0b11011101, 0b11001011, 0xFE, 0b00100110], .slaAtIXd 0xFE),
     ([0b11111101, 0b11001011, 0xFE, 0b00100110], .slaAtIYd 0xFE), ([0b11001011, 0b00100000], .slaB),
     ([0b11001011, 0b00100001], .slaC), ([0b11001011, 0b00100010], .slaD), ([0b11001011, 0b00100011], .slaE),
     ([0b11001011, 0b00100100], .slaH), ([0b11001011, 0b00100101], .slaL), ([0b11001011, 0b00100111], .slaA),
     ([0b11001011, 0b00101110], .sraAtHL), ([0b11011101, 0b11001011, 0xFE, 0b00101110], .sraAtIXd 0xFE),
     ([0b11111101, 0b11001011, 0xFE, 0b00101110], .sraAtIYd 0xFE), ([0b11001011, 0b00101000], .sraB),
     ([0b11001011, 0b00101001], .sraC), ([0b11001011, 0b00101010], .sraD), ([0b11001011, 0b00101011], .sraE),
     ([0b11001011, 0b00101100], .sraH), ([0b11001011, 0b00101101], .sraL), ([0b11001011, 0b00101111], .sraA),
     ([0b11001011, 0b00111110], .srlAtHL), ([0b11011101, 0b11001011, 0xFE, 0b00111110], .srlAtIXd 0xFE),
     ([0b11111101, 0b11001011, 0xFE, 0b00111110], .srlAtIYd 0xFE), ([0b11001011, 0b00111000], .srlB),
     ([0b11001011, 0b00111001], .srlC), ([0b11001011, 0b00111010], .srlD), ([0b11001011, 0b00111011], .srlE),
     ([0b11001011, 0b00111100], .srlH), ([0b11001011, 0b00111101], .srlL),
     ([0b11001011, 0b00111111], .srlA)] = true := by decide
/-- V-DE-7 to V-DE-19: what is not in the spec is refused. -/
theorem test_decode_refuses :
    refuses true [[0xCB, 0x36], [0xCB, 0x46], [0xDD, 0xCB, 0x05], [0xDD, 0xCB, 0x05, 0x36], [0xED], [0x76], [0xCF],
      [0xD3, 0xB6], [0xD3, 0xED, 0xC0], [0xDD], [0xDD, 0xF3]] = true := by decide

/-- R108: the 3000A's words are refused on a part without them. -/
theorem test_decode_refuses_on_base_part :
    refuses false [[0xED, 0x66], [0xED, 0x6E], [0xED, 0x6F], [0xED, 0x75], [0xED, 0x7D], [0xED, 0x7F], [0xED, 0xC0],
      [0xED, 0xC8], [0xED, 0xD0], [0xED, 0xD8], [0xED, 0xF0], [0xED, 0xF8], [0xD3, 0xED, 0xF8]] = true := by decide

/-! ## Single steps -/

/-- E1, R181. -/
theorem test_E1_MUL :
    gives [0xF7] { base with b := 0xFF, c := 0xFF, d := 0xFF, e := 0xFF }
      (fun s => { s with b := 0x00, c := 0x01, pc := 0x4001 }) := by decide

/-- E3, R212. -/
theorem test_E3_OR_atHL :
    gives [0xB6] { base.put [(0x8000, 0xE5)] with a := 0x4C, h := 0x80 }
      (fun s => { s with a := 0xED, pc := 0x4001, f := 0x84 }) := by decide

/-- E4, R274. -/
theorem test_E4_RL_atHL :
    gives [0xCB, 0x16] { base.put [(0x4545, 0x6A)] with h := 0x45, l := 0x45, f := 0x01 }
      (fun s => { s.put [(0x4545, 0xD5)] with pc := 0x4002, f := 0x84 }) := by decide

/-- E5, R280. -/
theorem test_E5_RLC_atHL :
    gives [0xCB, 0x06] { base.put [(0x4545, 0x6A)] with h := 0x45, l := 0x45, f := 0x01 }
      (fun s => { s.put [(0x4545, 0xD4)] with pc := 0x4002, f := 0x84 }) := by decide

/-- E6, R220. -/
theorem test_E6_XOR_atHL :
    gives [0xAE] { base.put [(0x4000, 0x95)] with a := 0x53, h := 0x40, pc := 0x5000 }
      (fun s => { s with a := 0xC6, pc := 0x5001, f := 0x84 }) := by decide

/-- E7a, R121. -/
theorem test_E7a_LDP_atHL_HL :
    gives [0xED, 0x64] { base with a := 0x03, h := 0xFF, l := 0xFF }
      (fun s => { s.put [(0x3FFFF, 0xFF), (0x30000, 0xFF)] with pc := 0x4002 }) := by decide

/-- E7b, R127. -/
theorem test_E7b_LDP_HL_atHL :
    gives [0xED, 0x6C] { base.put [(0x3FFFF, 0x11), (0x30000, 0x22), (0x40000, 0x99)] with
        a := 0x03, h := 0xFF, l := 0xFF }
      (fun s => { s with h := 0x22, l := 0x11, pc := 0x4002 }) := by decide

/-- V-LDP-2, R122. -/
theorem test_V_LDP_2_LDP_IX_HL :
    gives [0xDD, 0x64] { base with a := 0x05, ix := 0x8000, h := 0x23, l := 0x40 }
      (fun s => { s.put [(0x58000, 0x40), (0x58001, 0x23)] with pc := 0x4002 }) := by decide

/-- V-LDP-3, R123. -/
theorem test_V_LDP_3_LDP_IY_HL :
    gives [0xFD, 0x64] { base with a := 0xFF, iy := 0xFFFF, h := 0xBE, l := 0xEF }
      (fun s => { s.put [(0xFFFFF, 0xEF), (0xF0000, 0xBE)] with pc := 0x4002 }) := by decide

/-- V-LDP-4, R124. -/
theorem test_V_LDP_4_LDP_mn_HL :
    gives [0xED, 0x65, 0x02, 0x80] { base with a := 0x05, l := 0x01 }
      (fun s => { s.put [(0x58002, 0x01), (0x58003, 0x00)] with pc := 0x4004 }) := by decide

/-- V-LDP-5, R125. -/
theorem test_V_LDP_5_LDP_mn_IX :
    gives [0xDD, 0x65, 0xFF, 0xFF] { base with a := 0x12, ix := 0xA55A }
      (fun s => { s.put [(0x2FFFF, 0x5A), (0x20000, 0xA5)] with pc := 0x4004 }) := by decide

/-- V-LDP-6, R126. -/
theorem test_V_LDP_6_LDP_mn_IY :
    gives [0xFD, 0x65, 0xFE, 0x7F] { base with a := 0x0F, iy := 0x0102 }
      (fun s => { s.put [(0xF7FFE, 0x02), (0xF7FFF, 0x01)] with pc := 0x4004 }) := by decide

/-- V-LDP-8, R128. -/
theorem test_V_LDP_8_LDP_HL_IX :
    gives [0xDD, 0x6C] { base.put [(0xAFFFF, 0x11), (0xA0000, 0x22)] with a := 0x0A, ix := 0xFFFF }
      (fun s => { s with h := 0x22, l := 0x11, pc := 0x4002 }) := by decide

/-- V-LDP-9, R129. -/
theorem test_V_LDP_9_LDP_HL_IY :
    gives [0xFD, 0x6C] { base.put [(0x0100, 0xCD), (0x0101, 0xAB)] with iy := 0x0100 }
      (fun s => { s with h := 0xAB, l := 0xCD, pc := 0x4002 }) := by decide

/-- V-LDP-10, R130. -/
theorem test_V_LDP_10_LDP_HL_mn :
    gives [0xED, 0x6D, 0x34, 0x12] { base.put [(0x71234, 0xEF), (0x71235, 0xBE)] with a := 0x07 }
      (fun s => { s with h := 0xBE, l := 0xEF, pc := 0x4004 }) := by decide

/-- V-LDP-11, R131. -/
theorem test_V_LDP_11_LDP_IX_mn :
    gives [0xDD, 0x6D, 0x00, 0x40] { base.put [(0x34000, 0x10), (0x34001, 0x20)] with a := 0x03 }
      (fun s => { s with ix := 0x2010, pc := 0x4004 }) := by decide

/-- V-LDP-12, R132. -/
theorem test_V_LDP_12_LDP_IY_mn :
    gives [0xFD, 0x6D, 0xFF, 0xFF] { base.put [(0x8FFFF, 0x01), (0x80000, 0x02)] with a := 0x08 }
      (fun s => { s with iy := 0x0201, pc := 0x4004 }) := by decide

/-- V-LDP-13, R128. -/
theorem test_V_LDP_13_LDP_HL_IX :
    gives [0xDD, 0x6C] { base.put [(0xE000, 0x34), (0xE001, 0x12), (0x93000, 0xFF), (0x93001, 0xFF)] with
        ix := 0xE000, xpc := 0x85 }
      (fun s => { s with h := 0x12, l := 0x34, pc := 0x4002 }) := by decide

/-- V-CT-1, R140. -/
theorem test_V_CT_1_LJP_x_mn :
    gives [0xC7, 0x00, 0xE0, 0x85] base
      (fun s => { s with xpc := 0x85, pc := 0xE000 }) := by decide

/-- V-CT-3, R140. -/
theorem test_V_CT_3_LJP_x_mn :
    refusedAs (step (starting [0xC7, 0x00, 0x40, 0x01] base)) .ljpTargetOutsideWindow := by decide

/-- V-CT-4, R141. -/
theorem test_V_CT_4_LRET :
    gives [0xED, 0x45] { base.put [(0xCFFD, 0x10), (0xCFFE, 0x40), (0xCFFF, 0x00)] with sp := 0xCFFD, xpc := 0x85 }
      (fun s => { s with sp := 0xD000, xpc := 0x00, pc := 0x4010 }) := by decide

/-- V-CT-5, R142. -/
theorem test_V_CT_5_RET :
    gives [0xC9] { base.put [(0xCFFE, 0x01), (0xCFFF, 0x40)] with sp := 0xCFFE }
      (fun s => { s with sp := 0xD000, pc := 0x4001 }) := by decide

/-- V-CT-6, R142. -/
theorem test_V_CT_6_RET :
    gives [0xC9] { base.put [(0xFFFF, 0x34), (0x0000, 0x12)] with sp := 0xFFFF }
      (fun s => { s with sp := 0x0001, pc := 0x1234 }) := by decide

/-- V-CT-7, R144. -/
theorem test_V_CT_7_RETI :
    gives [0xED, 0x4D] { base.put [(0xCFFD, 0xFC), (0xCFFE, 0x34), (0xCFFF, 0x12)] with sp := 0xCFFD, ip := 0x03 }
      (fun s => { s with sp := 0xD000, ip := 0xFC, inhibit := true, pc := 0x1234 }) := by decide

/-- V-CT-8, R144. -/
theorem test_V_CT_8_RETI :
    refusedAs (step (starting [0xED, 0x4D] { base.put [(0xCFFD, 0xFC), (0xCFFE, 0x34), (0xCFFF, 0x12)] with
        sp := 0xCFFD, su := 0x01 })) .privilegedInUserMode := by decide

/-- V-CT-9, R145. -/
theorem test_V_CT_9_RST_10 :
    gives [0xD7] { base with iir := 0x20 }
      (fun s => { s.put [(0xCFFF, 0x40), (0xCFFE, 0x01)] with sp := 0xCFFE, pc := 0x2020 }) := by decide

/-- V-CT-15, R146. -/
theorem test_V_CT_15_SYSCALL :
    gives [0xED, 0x75] { base with iir := 0x7F, pc := 0x1000 }
      (fun s => { s.put [(0xCFFF, 0x10), (0xCFFE, 0x02)] with sp := 0xCFFE, pc := 0x7F60 }) := by decide

/-- V-CT-16, R146. -/
theorem test_V_CT_16_SYSCALL :
    gives [0xED, 0x75] { base with
        iir := 0x7F, su := 0x01, pc := 0x1000, config := { base.config with suOnTrap := .pushSystem } }
      (fun s => { s.put [(0xCFFF, 0x10), (0xCFFE, 0x02)] with sp := 0xCFFE, su := 0x04, pc := 0x7F60 }) := by decide

/-- V-CT-17, R146. -/
theorem test_V_CT_17_SYSCALL :
    refusedAs (step (starting [0xED, 0x75] { base with
        iir := 0x7F, pc := 0x1000, config := { base.config with is3000A := false } })) .notInSpec := by decide

/-- V-BL-6, R166. -/
theorem test_V_BL_6_IOE_LSIDR :
    gives [0xDB, 0xED, 0xD0] { base with
        c := 0x01, h := 0x12, l := 0x34, d := 0x90, f := 0x04, ioAnswers := [0x99] }
      (fun s => { s.put [(0x9000, 0x99)] with
          c := 0x00, e := 0x01, pc := 0x4003, f := 0x00, ioAnswers := [] }) := by decide

/-- V-BL-7, R164. -/
theorem test_V_BL_7_LSIR :
    gives [0xED, 0xF0] { base.put [(0x8000, 0x11), (0x8001, 0x22), (0x8002, 0x33)] with
        c := 0x03, h := 0x80, d := 0x90 }
      (fun s => { s.put [(0x9000, 0x11)] with
          c := 0x02, e := 0x01, l := 0x01, pc := 0x4000, f := 0x04 }) := by decide

/-- V-BL-8, R164. -/
theorem test_V_BL_8_LSIR :
    gives [0xED, 0xF0] { base.put [(0x8000, 0x11)] with h := 0x80, d := 0x90 }
      (fun s => { s.put [(0x9000, 0x11)] with
          b := 0xFF, c := 0xFF, e := 0x01, l := 0x01, pc := 0x4000, f := 0x04 }) := by decide

/-- V-BL-9, R163. -/
theorem test_V_BL_9_LSDR :
    gives [0xED, 0xF8] { base.put [(0x0000, 0x77)] with c := 0x01, f := 0x04 }
      (fun s => { s.put [(0x0000, 0x77)] with
          c := 0x00, d := 0xFF, e := 0xFF, h := 0xFF, l := 0xFF, pc := 0x4002, f := 0x00 }) := by decide

/-- V-BL-10, R168. -/
theorem test_V_BL_10_UMA :
    gives [0xED, 0xC0] { base.put [(0x8000, 0xFE), (0x8100, 0x03)] with
        c := 0x01, d := 0x01, deAlt := 0x0002, ix := 0x8000, iy := 0x8100, h := 0x82, f := 0x01 }
      (fun s => { s.put [(0x8200, 0x01)] with
          c := 0x00, l := 0x01, ix := 0x8001, iy := 0x8101, deAlt := 0x0004, pc := 0x4002,
          f := 0x00 }) := by decide

/-- V-BL-13, R169. -/
theorem test_V_BL_13_UMS :
    gives [0xED, 0xC8] { base.put [(0x8000, 0x09), (0x8100, 0x05)] with
        c := 0x01, e := 0x01, ix := 0x8000, iy := 0x8100, h := 0x82 }
      (fun s => { s.put [(0x8200, 0x04)] with
          c := 0x00, l := 0x01, ix := 0x8001, iy := 0x8101, pc := 0x4002 }) := by decide

/-- V-BL-14, R169. -/
theorem test_V_BL_14_UMS :
    gives [0xED, 0xC8] { base.put [(0x8000, 0x03), (0x8100, 0x05)] with
        c := 0x01, e := 0x01, ix := 0x8000, iy := 0x8100, h := 0x82 }
      (fun s => { s.put [(0x8200, 0xFE)] with
          c := 0x00, l := 0x01, ix := 0x8001, iy := 0x8101, deAlt := 0xFFFF, pc := 0x4002,
          f := 0x01 }) := by decide

/-- V-BL-15, R163. -/
theorem test_V_BL_15_LSDR :
    refusedAs (step (starting [0xED, 0xF8] { base.put [(0x8000, 0xAA), (0x8001, 0xBB)] with
        c := 0x02, h := 0x80, l := 0x01, d := 0x90, e := 0x01,
        config := { base.config with is3000A := false } })) .notInSpec := by decide

/-- V-BL-16, R162. -/
theorem test_V_BL_16_no_row :
    refusedAs (step (starting [0xD3, 0xB6] { base with h := 0x80 })) .notInSpec := by decide

/-- V-AR-5, R182. -/
theorem test_V_AR_5_NEG :
    gives [0xED, 0x44] { base with a := 0x01 }
      (fun s => { s with a := 0xFF, pc := 0x4002, f := 0x81 }) := by decide

/-- V-AR-7, R182. -/
theorem test_V_AR_7_NEG :
    gives [0xED, 0x44] { base with a := 0x80 }
      (fun s => { s with pc := 0x4002, f := 0x85 }) := by decide

/-- V-AR-8, R184. -/
theorem test_V_AR_8_SUB_atHL :
    gives [0x96] { base.put [(0x8000, 0x20)] with a := 0x50, h := 0x80 }
      (fun s => { s with a := 0x30, pc := 0x4001 }) := by decide

/-- V-AR-9, R185. -/
theorem test_V_AR_9_SUB_IX_d :
    gives [0xDD, 0x96, 0xFE] { base.put [(0x8000, 0x01)] with ix := 0x8002 }
      (fun s => { s with a := 0xFF, pc := 0x4003, f := 0x81 }) := by decide

/-- V-AR-10, R186. -/
theorem test_V_AR_10_SUB_IY_d :
    gives [0xFD, 0x96, 0x05] { base.put [(0x9005, 0x01)] with a := 0x80, iy := 0x9000 }
      (fun s => { s with a := 0x7F, pc := 0x4003, f := 0x04 }) := by decide

/-- V-AR-11, R187. -/
theorem test_V_AR_11_SUB_n :
    gives [0xD6, 0x01] base
      (fun s => { s with a := 0xFF, pc := 0x4002, f := 0x81 }) := by decide

/-- V-AR-12, R188. -/
theorem test_V_AR_12_SUB_B :
    gives [0x90] { base with a := 0x10, b := 0x01 }
      (fun s => { s with a := 0x0F, pc := 0x4001 }) := by decide

/-- V-AR-15, R190. -/
theorem test_V_AR_15_SBC_A_atHL :
    gives [0x9E] { base.put [(0x8000, 0x10)] with a := 0x10, h := 0x80, f := 0x01 }
      (fun s => { s with a := 0xFF, pc := 0x4001, f := 0x81 }) := by decide

/-- V-AR-17, R191. -/
theorem test_V_AR_17_SBC_IX_d :
    gives [0xDD, 0x9E, 0x01] { base.put [(0x8001, 0x10)] with a := 0x20, ix := 0x8000, f := 0x01 }
      (fun s => { s with a := 0x0F, pc := 0x4003, f := 0x00 }) := by decide

/-- V-AR-18, R192. -/
theorem test_V_AR_18_SBC_IY_d :
    gives [0xFD, 0x9E, 0xFF] { base.put [(0x8000, 0x20)] with a := 0x10, iy := 0x8001 }
      (fun s => { s with a := 0xF0, pc := 0x4003, f := 0x81 }) := by decide

/-- V-AR-19, R193. -/
theorem test_V_AR_19_SBC_A_n :
    gives [0xDE, 0x05] { base with a := 0x0A, f := 0x01 }
      (fun s => { s with a := 0x04, pc := 0x4002, f := 0x00 }) := by decide

/-- V-AR-20, R194. -/
theorem test_V_AR_20_SBC_A_B :
    gives [0x98] { base with f := 0x01 }
      (fun s => { s with a := 0xFF, pc := 0x4001, f := 0x81 }) := by decide

/-- V-AR-23, R195. -/
theorem test_V_AR_23_SBC_HL_DE :
    gives [0xED, 0x52] { base with h := 0x10, e := 0x01, f := 0x01 }
      (fun s => { s with h := 0x0F, l := 0xFE, pc := 0x4002, f := 0x00 }) := by decide

/-- V-AR-24, R195. -/
theorem test_V_AR_24_SBC_HL_HL :
    gives [0xED, 0x62] { base with h := 0x12, l := 0x34, f := 0x01 }
      (fun s => { s with h := 0xFF, l := 0xFF, pc := 0x4002, f := 0x81 }) := by decide

/-- V-LG-1, R210. -/
theorem test_V_LG_1_NOP :
    gives [0x00] { base with a := 0x12, f := 0x85 }
      (fun s => { s with pc := 0x4001 }) := by decide

/-- V-LG-2, R213. -/
theorem test_V_LG_2_OR_IX_d :
    gives [0xDD, 0xB6, 0x02] { base.put [(0x8002, 0xF0)] with a := 0x0F, ix := 0x8000, f := 0x01 }
      (fun s => { s with a := 0xFF, pc := 0x4003, f := 0x84 }) := by decide

/-- V-LG-3, R214. -/
theorem test_V_LG_3_OR_IY_d :
    gives [0xFD, 0xB6, 0xFF] { base.put [(0x8000, 0x80)] with a := 0x01, iy := 0x8001 }
      (fun s => { s with a := 0x81, pc := 0x4003, f := 0x84 }) := by decide

/-- V-LG-4, R215. -/
theorem test_V_LG_4_OR_HL_DE :
    gives [0xEC] { base with l := 0xF0, d := 0x0F, f := 0x01 }
      (fun s => { s with h := 0x0F, pc := 0x4001, f := 0x00 }) := by decide

/-- V-LG-5, R216. -/
theorem test_V_LG_5_OR_IX_DE :
    gives [0xDD, 0xEC] { base with ix := 0x8000, e := 0x01 }
      (fun s => { s with ix := 0x8001, pc := 0x4002, f := 0x84 }) := by decide

/-- V-LG-6, R217. -/
theorem test_V_LG_6_OR_IY_DE :
    gives [0xFD, 0xEC] { base with f := 0x81 }
      (fun s => { s with pc := 0x4002, f := 0x40 }) := by decide

/-- V-LG-7, R218. -/
theorem test_V_LG_7_OR_n :
    gives [0xF6, 0x5A] base
      (fun s => { s with a := 0x5A, pc := 0x4002, f := 0x04 }) := by decide

/-- V-LG-9, R219. -/
theorem test_V_LG_9_OR_B :
    gives [0xB0] { base with a := 0x0C, b := 0x03 }
      (fun s => { s with a := 0x0F, pc := 0x4001 }) := by decide

/-- V-LG-11, R221. -/
theorem test_V_LG_11_XOR_IX_d :
    gives [0xDD, 0xAE, 0x00] { base.put [(0x8000, 0x0F)] with a := 0xFF, ix := 0x8000 }
      (fun s => { s with a := 0xF0, pc := 0x4003, f := 0x84 }) := by decide

/-- V-LG-12, R222. -/
theorem test_V_LG_12_XOR_IY_d :
    gives [0xFD, 0xAE, 0x7F] { base.put [(0x807F, 0xAA)] with a := 0xAA, iy := 0x8000 }
      (fun s => { s with a := 0x00, pc := 0x4003, f := 0x40 }) := by decide

/-- V-LG-13, R223. -/
theorem test_V_LG_13_XOR_n :
    gives [0xEE, 0xFF] { base with a := 0x5A, f := 0x01 }
      (fun s => { s with a := 0xA5, pc := 0x4002, f := 0x84 }) := by decide

/-- V-LG-14, R224. -/
theorem test_V_LG_14_XOR_B :
    gives [0xA8] { base with a := 0x53, b := 0x95 }
      (fun s => { s with a := 0xC6, pc := 0x4001, f := 0x84 }) := by decide

/-- V-LG-16, R225. -/
theorem test_V_LG_16_SCF :
    gives [0x37] { base with f := 0xC0 }
      (fun s => { s with pc := 0x4001, f := 0xC1 }) := by decide

/-- V-ST-1, R241. -/
theorem test_V_ST_1_POP_IP :
    gives [0xED, 0x7E] { base.put [(0xCFFF, 0x03)] with sp := 0xCFFF, ip := 0xFF }
      (fun s => { s with sp := 0xD000, ip := 0x03, inhibit := true, pc := 0x4002 }) := by decide

/-- V-ST-2, R242. -/
theorem test_V_ST_2_POP_IX :
    gives [0xDD, 0xE1] { base.put [(0xCFFE, 0x34), (0xCFFF, 0x12)] with sp := 0xCFFE }
      (fun s => { s with ix := 0x1234, sp := 0xD000, pc := 0x4002 }) := by decide

/-- V-ST-3, R243. -/
theorem test_V_ST_3_POP_IY :
    gives [0xFD, 0xE1] { base.put [(0xCFFE, 0xCD), (0xCFFF, 0xAB)] with sp := 0xCFFE }
      (fun s => { s with iy := 0xABCD, sp := 0xD000, pc := 0x4002 }) := by decide

/-- V-ST-4, R244. -/
theorem test_V_ST_4_POP_SU :
    gives [0xED, 0x6E] { base.put [(0xCFFF, 0x01)] with sp := 0xCFFF }
      (fun s => { s with sp := 0xD000, su := 0x01, inhibit := true, pc := 0x4002 }) := by decide

/-- V-ST-5, R244. -/
theorem test_V_ST_5_POP_SU :
    refusedAs (step (starting [0xED, 0x6E] { base.put [(0xCFFF, 0x00)] with
        sp := 0xCFFF, su := 0x01 })) .privilegedInUserMode := by decide

/-- V-ST-6, R245. -/
theorem test_V_ST_6_POP_HL :
    gives [0xE1] { base.put [(0xCFFE, 0x40), (0xCFFF, 0x23)] with sp := 0xCFFE }
      (fun s => { s with h := 0x23, l := 0x40, sp := 0xD000, pc := 0x4001 }) := by decide

/-- V-ST-10, R249. -/
theorem test_V_ST_10_PUSH_IP :
    gives [0xED, 0x76] { base with ip := 0xFC }
      (fun s => { s.put [(0xCFFF, 0xFC)] with sp := 0xCFFF, pc := 0x4002 }) := by decide

/-- V-ST-12, R250. -/
theorem test_V_ST_12_PUSH_IX :
    gives [0xDD, 0xE5] { base with ix := 0x1234 }
      (fun s => { s.put [(0xCFFF, 0x12), (0xCFFE, 0x34)] with sp := 0xCFFE, pc := 0x4002 }) := by decide

/-- V-ST-13, R251. -/
theorem test_V_ST_13_PUSH_IY :
    gives [0xFD, 0xE5] { base with iy := 0xABCD }
      (fun s => { s.put [(0xCFFF, 0xAB), (0xCFFE, 0xCD)] with sp := 0xCFFE, pc := 0x4002 }) := by decide

/-- V-ST-14, R252. -/
theorem test_V_ST_14_PUSH_BC :
    gives [0xC5] { base with b := 0x23, c := 0x40 }
      (fun s => { s.put [(0xCFFF, 0x23), (0xCFFE, 0x40)] with sp := 0xCFFE, pc := 0x4001 }) := by decide

/-- V-ST-15, R252. -/
theorem test_V_ST_15_PUSH_HL :
    gives [0xE5] { base with h := 0xBE, l := 0xEF, sp := 0x0001 }
      (fun s => { s.put [(0x0000, 0xBE), (0xFFFF, 0xEF)] with sp := 0xFFFF, pc := 0x4001 }) := by decide

/-- V-ST-16, R253. -/
theorem test_V_ST_16_PUSH_SU :
    gives [0xED, 0x66] { base with su := 0x04 }
      (fun s => { s.put [(0xCFFF, 0x04)] with sp := 0xCFFF, inhibit := true, pc := 0x4002 }) := by decide

/-- V-ST-17, R253. -/
theorem test_V_ST_17_PUSH_SU :
    refusedAs (step (starting [0xED, 0x66] { base with su := 0x05 })) .privilegedInUserMode := by decide

/-- V-BT-1, R261. -/
theorem test_V_BT_1_RES_7_atHL :
    gives [0xCB, 0xBE] { base.put [(0x8000, 0xFF)] with h := 0x80, f := 0xC1 }
      (fun s => { s.put [(0x8000, 0x7F)] with pc := 0x4002 }) := by decide

/-- V-BT-3, R262. -/
theorem test_V_BT_3_RES_0_IX_d :
    gives [0xDD, 0xCB, 0x05, 0x86] { base.put [(0x8005, 0x0F)] with ix := 0x8000 }
      (fun s => { s.put [(0x8005, 0x0E)] with pc := 0x4004 }) := by decide

/-- V-BT-4, R263. -/
theorem test_V_BT_4_RES_3_IY_d :
    gives [0xFD, 0xCB, 0xFE, 0x9E] { base.put [(0x8000, 0x08)] with iy := 0x8002 }
      (fun s => { s.put [(0x8000, 0x00)] with pc := 0x4004 }) := by decide

/-- V-BT-5, R264. -/
theorem test_V_BT_5_RES_0_A :
    gives [0xCB, 0x87] { base with a := 0xFF }
      (fun s => { s with a := 0xFE, pc := 0x4002 }) := by decide

/-- V-BT-8, R265. -/
theorem test_V_BT_8_SET_0_atHL :
    gives [0xCB, 0xC6] { base.put [(0x8000, 0x00)] with h := 0x80 }
      (fun s => { s.put [(0x8000, 0x01)] with pc := 0x4002 }) := by decide

/-- V-BT-9, R266. -/
theorem test_V_BT_9_SET_7_IX_d :
    gives [0xDD, 0xCB, 0x00, 0xFE] { base.put [(0x8000, 0x01)] with ix := 0x8000 }
      (fun s => { s.put [(0x8000, 0x81)] with pc := 0x4004 }) := by decide

/-- V-BT-10, R267. -/
theorem test_V_BT_10_SET_2_IY_d :
    gives [0xFD, 0xCB, 0x80, 0xD6] { base.put [(0x8000, 0x00)] with iy := 0x8080 }
      (fun s => { s.put [(0x8000, 0x04)] with pc := 0x4004 }) := by decide

/-- V-BT-11, R268. -/
theorem test_V_BT_11_SET_7_A :
    gives [0xCB, 0xFF] base
      (fun s => { s with a := 0x80, pc := 0x4002 }) := by decide

/-- V-BT-14, R266. -/
theorem test_V_BT_14_SET_0_IX_d :
    gives [0xDD, 0xCB, 0x7F, 0xC6] { base.put [(0x007E, 0x00)] with ix := 0xFFFF }
      (fun s => { s.put [(0x007E, 0x01)] with pc := 0x4004 }) := by decide

/-- V-RS-1, R275. -/
theorem test_V_RS_1_RL_IX_d :
    gives [0xDD, 0xCB, 0x01, 0x16] { base.put [(0x8001, 0x80)] with ix := 0x8000 }
      (fun s => { s.put [(0x8001, 0x00)] with pc := 0x4004, f := 0x41 }) := by decide

/-- V-RS-2, R276. -/
theorem test_V_RS_2_RL_IY_d :
    gives [0xFD, 0xCB, 0x00, 0x16] { base.put [(0x8000, 0x01)] with iy := 0x8000, f := 0x01 }
      (fun s => { s.put [(0x8000, 0x03)] with pc := 0x4004, f := 0x00 }) := by decide

/-- V-RS-3, R277. -/
theorem test_V_RS_3_RL_DE :
    gives [0xF3] { base with d := 0x80, e := 0x01 }
      (fun s => { s with d := 0x00, e := 0x02, pc := 0x4001, f := 0x01 }) := by decide

/-- V-RS-4, R278. -/
theorem test_V_RS_4_RL_C :
    gives [0xCB, 0x11] { base with c := 0x01, f := 0x01 }
      (fun s => { s with c := 0x03, pc := 0x4002, f := 0x00 }) := by decide

/-- V-RS-5, R278. -/
theorem test_V_RS_5_RL_A :
    gives [0xCB, 0x17] { base with a := 0x6A, f := 0x01 }
      (fun s => { s with a := 0xD5, pc := 0x4002, f := 0x84 }) := by decide

/-- V-RS-6, R279. -/
theorem test_V_RS_6_RLA :
    gives [0x17] { base with a := 0x6A, f := 0x41 }
      (fun s => { s with a := 0xD5, pc := 0x4001, f := 0x40 }) := by decide

/-- V-RS-7, R281. -/
theorem test_V_RS_7_RLC_IX_d :
    gives [0xDD, 0xCB, 0x00, 0x06] { base.put [(0x8000, 0x81)] with ix := 0x8000 }
      (fun s => { s.put [(0x8000, 0x03)] with pc := 0x4004, f := 0x01 }) := by decide

/-- V-RS-8, R282. -/
theorem test_V_RS_8_RLC_IY_d :
    gives [0xFD, 0xCB, 0x02, 0x06] { base.put [(0x8002, 0x40)] with iy := 0x8000, f := 0x01 }
      (fun s => { s.put [(0x8002, 0x80)] with pc := 0x4004, f := 0x84 }) := by decide

/-- V-RS-9, R283. -/
theorem test_V_RS_9_RLC_B :
    gives [0xCB, 0x00] { base with b := 0x80 }
      (fun s => { s with b := 0x01, pc := 0x4002, f := 0x01 }) := by decide

/-- V-RS-10, R284. -/
theorem test_V_RS_10_RLCA :
    gives [0x07] { base with a := 0x6A, f := 0x01 }
      (fun s => { s with a := 0xD4, pc := 0x4001, f := 0x00 }) := by decide

/-- V-RS-11, R285. -/
theorem test_V_RS_11_RR_atHL :
    gives [0xCB, 0x1E] { base.put [(0x4545, 0xD5)] with h := 0x45, l := 0x45 }
      (fun s => { s.put [(0x4545, 0x6A)] with pc := 0x4002, f := 0x05 }) := by decide

/-- V-RS-12, R286. -/
theorem test_V_RS_12_RR_IX_d :
    gives [0xDD, 0xCB, 0x00, 0x1E] { base.put [(0x8000, 0x01)] with ix := 0x8000 }
      (fun s => { s.put [(0x8000, 0x00)] with pc := 0x4004, f := 0x41 }) := by decide

/-- V-RS-13, R287. -/
theorem test_V_RS_13_RR_IY_d :
    gives [0xFD, 0xCB, 0x00, 0x1E] { base.put [(0x8000, 0x02)] with iy := 0x8000, f := 0x01 }
      (fun s => { s.put [(0x8000, 0x81)] with pc := 0x4004, f := 0x84 }) := by decide

/-- V-RS-14, R288. -/
theorem test_V_RS_14_RR_DE :
    gives [0xFB] { base with e := 0x01 }
      (fun s => { s with e := 0x00, pc := 0x4001, f := 0x41 }) := by decide

/-- V-RS-15, R289. -/
theorem test_V_RS_15_RR_HL :
    gives [0xFC] { base with h := 0x12, l := 0x34, f := 0x01 }
      (fun s => { s with h := 0x89, l := 0x1A, pc := 0x4001, f := 0x84 }) := by decide

/-- V-RS-16, R290. -/
theorem test_V_RS_16_RR_IX :
    gives [0xDD, 0xFC] { base with ix := 0xFFFF }
      (fun s => { s with ix := 0x7FFF, pc := 0x4002, f := 0x05 }) := by decide

/-- V-RS-17, R291. -/
theorem test_V_RS_17_RR_IY :
    gives [0xFD, 0xFC] { base with iy := 0x0002, f := 0x01 }
      (fun s => { s with iy := 0x8001, pc := 0x4002, f := 0x84 }) := by decide

/-- V-RS-18, R292. -/
theorem test_V_RS_18_RR_A :
    gives [0xCB, 0x1F] { base with a := 0x01 }
      (fun s => { s with a := 0x00, pc := 0x4002, f := 0x41 }) := by decide

/-- V-RS-19, R293. -/
theorem test_V_RS_19_RRA :
    gives [0x1F] { base with a := 0xD5, f := 0x80 }
      (fun s => { s with a := 0x6A, pc := 0x4001, f := 0x81 }) := by decide

/-- V-RS-20, R294. -/
theorem test_V_RS_20_RRC_atHL :
    gives [0xCB, 0x0E] { base.put [(0x4545, 0xD4)] with h := 0x45, l := 0x45, f := 0x01 }
      (fun s => { s.put [(0x4545, 0x6A)] with pc := 0x4002, f := 0x04 }) := by decide

/-- V-RS-21, R295. -/
theorem test_V_RS_21_RRC_IX_d :
    gives [0xDD, 0xCB, 0x00, 0x0E] { base.put [(0x8000, 0x01)] with ix := 0x8000 }
      (fun s => { s.put [(0x8000, 0x80)] with pc := 0x4004, f := 0x85 }) := by decide

/-- V-RS-22, R296. -/
theorem test_V_RS_22_RRC_IY_d :
    gives [0xFD, 0xCB, 0x00, 0x0E] { base.put [(0x8000, 0x02)] with iy := 0x8000 }
      (fun s => { s.put [(0x8000, 0x01)] with pc := 0x4004 }) := by decide

/-- V-RS-23, R297. -/
theorem test_V_RS_23_RRC_L :
    gives [0xCB, 0x0D] { base with l := 0x03 }
      (fun s => { s with l := 0x81, pc := 0x4002, f := 0x85 }) := by decide

/-- V-RS-24, R298. -/
theorem test_V_RS_24_RRCA :
    gives [0x0F] { base with a := 0xD4, f := 0x01 }
      (fun s => { s with a := 0x6A, pc := 0x4001, f := 0x00 }) := by decide

/-- V-RS-25, R299. -/
theorem test_V_RS_25_SLA_atHL :
    gives [0xCB, 0x26] { base.put [(0x8000, 0xC1)] with h := 0x80 }
      (fun s => { s.put [(0x8000, 0x82)] with pc := 0x4002, f := 0x85 }) := by decide

/-- V-RS-26, R300. -/
theorem test_V_RS_26_SLA_IX_d :
    gives [0xDD, 0xCB, 0x00, 0x26] { base.put [(0x8000, 0x40)] with ix := 0x8000 }
      (fun s => { s.put [(0x8000, 0x80)] with pc := 0x4004, f := 0x84 }) := by decide

/-- V-RS-27, R301. -/
theorem test_V_RS_27_SLA_IY_d :
    gives [0xFD, 0xCB, 0x00, 0x26] { base.put [(0x8000, 0x80)] with iy := 0x8000 }
      (fun s => { s.put [(0x8000, 0x00)] with pc := 0x4004, f := 0x41 }) := by decide

/-- V-RS-28, R302. -/
theorem test_V_RS_28_SLA_A :
    gives [0xCB, 0x27] { base with a := 0x55, f := 0x01 }
      (fun s => { s with a := 0xAA, pc := 0x4002, f := 0x84 }) := by decide

/-- V-RS-29, R303. -/
theorem test_V_RS_29_SRA_atHL :
    gives [0xCB, 0x2E] { base.put [(0x8000, 0x85)] with h := 0x80 }
      (fun s => { s.put [(0x8000, 0xC2)] with pc := 0x4002, f := 0x85 }) := by decide

/-- V-RS-30, R304. -/
theorem test_V_RS_30_SRA_IX_d :
    gives [0xDD, 0xCB, 0x00, 0x2E] { base.put [(0x8000, 0x7E)] with ix := 0x8000 }
      (fun s => { s.put [(0x8000, 0x3F)] with pc := 0x4004, f := 0x04 }) := by decide

/-- V-RS-31, R305. -/
theorem test_V_RS_31_SRA_IY_d :
    gives [0xFD, 0xCB, 0x00, 0x2E] { base.put [(0x8000, 0x81)] with iy := 0x8000 }
      (fun s => { s.put [(0x8000, 0xC0)] with pc := 0x4004, f := 0x85 }) := by decide

/-- V-RS-32, R306. -/
theorem test_V_RS_32_SRA_D :
    gives [0xCB, 0x2A] { base with d := 0xF0 }
      (fun s => { s with d := 0xF8, pc := 0x4002, f := 0x84 }) := by decide

/-- V-RS-34, R307. -/
theorem test_V_RS_34_SRL_atHL :
    gives [0xCB, 0x3E] { base.put [(0x8000, 0x85)] with h := 0x80 }
      (fun s => { s.put [(0x8000, 0x42)] with pc := 0x4002, f := 0x05 }) := by decide

/-- V-RS-35, R308. -/
theorem test_V_RS_35_SRL_IX_d :
    gives [0xDD, 0xCB, 0x00, 0x3E] { base.put [(0x8000, 0xFF)] with ix := 0x8000 }
      (fun s => { s.put [(0x8000, 0x7F)] with pc := 0x4004, f := 0x05 }) := by decide

/-- V-RS-36, R309. -/
theorem test_V_RS_36_SRL_IY_d :
    gives [0xFD, 0xCB, 0x00, 0x3E] { base.put [(0x8000, 0x02)] with iy := 0x8000 }
      (fun s => { s.put [(0x8000, 0x01)] with pc := 0x4004 }) := by decide

/-- V-RS-37, R269. -/
theorem test_V_RS_37_SRL_B :
    gives [0xCB, 0x38] { base with b := 0xB1 }
      (fun s => { s with b := 0x58, pc := 0x4002, f := 0x05 }) := by decide

/-- V-SY-1, R311. -/
theorem test_V_SY_1_RDMODE :
    gives [0xED, 0x7F] { base with su := 0x01, f := 0x80 }
      (fun s => { s with pc := 0x4002, f := 0x81 }) := by decide

/-- V-SY-3, R312. -/
theorem test_V_SY_3_SETUSR :
    gives [0xED, 0x6F] base
      (fun s => { s with su := 0x01, inhibit := true, pc := 0x4002 }) := by decide

/-- V-SY-5, R312. -/
theorem test_V_SY_5_SETUSR :
    refusedAs (step (starting [0xED, 0x6F] { base with su := 0x01 })) .privilegedInUserMode := by decide

/-- V-SY-6, R313. -/
theorem test_V_SY_6_SURES :
    gives [0xED, 0x7D] { base with su := 0x04 }
      (fun s => { s with su := 0x01, inhibit := true, pc := 0x4002 }) := by decide

/-- V-SY-8, R313. -/
theorem test_V_SY_8_SURES :
    refusedAs (step (starting [0xED, 0x7D] { base with su := 0x05 })) .privilegedInUserMode := by decide

/-- V-SY-9, R311. -/
theorem test_V_SY_9_RDMODE :
    refusedAs (step (starting [0xED, 0x7F] { base with
        su := 0x01, config := { base.config with is3000A := false } })) .notInSpec := by decide

/-- V-RF-2, R143: taken. -/
theorem test_V_RF_2_RET_Z_taken :
    gives [0xC8] { base.put [(0xCFFE, 0x00), (0xCFFF, 0x50)] with sp := 0xCFFE, f := 0x40 }
      (fun s => { s with pc := 0x5000, sp := 0xD000 }) := by decide

/-- V-RF-2, R143: not taken. -/
theorem test_V_RF_2_RET_Z_not_taken :
    gives [0xC8] { base.put [(0xCFFE, 0x00), (0xCFFF, 0x50)] with sp := 0xCFFE } (fun s => { s with pc := 0x4001 }) := by
  decide

/-- The first iteration of V-BL-4, R165. -/
theorem test_V_BL_4_LSDDR :
    gives [0xED, 0xD8] { base.put [(0x8000, 0x5A)] with c := 0x02, h := 0x80, d := 0x90, e := 0x01 }
      (fun s => { s.put [(0x9001, 0x5A)] with c := 0x01, e := 0x00, f := 0x04 }) := by decide

/-- The first iteration of V-BL-5, R166. -/
theorem test_V_BL_5_IOI_LSIDR :
    gives [0xD3, 0xED, 0xD0] { base with c := 0x02, l := 0xC0, d := 0x90, ioAnswers := [0x41, 0x42] }
      (fun s => { s.put [(0x9000, 0x41)] with c := 0x01, e := 0x01, f := 0x04, ioAnswers := [0x42] }) := by decide

/-- R66: the segments at their edges (general knowledge, log 2), worked out by hand. -/
theorem test_translate :
    ([0x5FFF, 0x6000, 0xCFFF, 0xD000, 0xDFFF, 0xE000, 0xFFFF].map
      { base with segsize := 0xD6, dataseg := 0x10, stackseg := 0x80, xpc := 0xF2 }.translate) =
      [0x05FFF, 0x16000, 0x1CFFF, 0x8D000, 0x8DFFF, 0x00000, 0x01FFF] := by decide

/-- R72: the address of a memory operand at the ends of the displacement's range, worked out by hand (log 13,
log 14). -/
theorem test_operand_address :
    ([(0x1234, .hl), (0x8000, .indexed .ix 0x7F), (0x007F, .indexed .ix 0x80), (0xFFFF, .indexed .iy 0x7F),
      (0xFFFF, .indexed .iy 0xFF)] : List (Word × MemArg)).map
      (fun p => { base with h := 0x12, l := 0x34, ix := p.1, iy := p.1 }.ea p.2) =
      [0x1234, 0x807F, 0xFFFF, 0x007E, 0xFFFE] := by decide

/-! ## The hypotheses of the statements can be met -/

/-- A state for the witnesses: HL and IX at 1000, IY at 1001, DE at 2000, BC = 2, bytes there and on the stack. -/
def demo : State :=
  { base.put [(0x1000, 0x11), (0x1001, 0x22), (0xD000, 0x05), (0xD001, 0x34), (0xD002, 0x12)] with
    c := 0x02, d := 0x20, h := 0x10, ix := 0x1000, iy := 0x1001 }

/-- The same in user mode. -/
def demoUser : State := { demo with su := 0x01 }

/-- The same where a trap pushes system mode. -/
def demoPush : State := { demoUser with config := { demoUser.config with suOnTrap := .pushSystem } }

/-- The outcome is a next state. -/
def isNext : Out → Bool
  | .next _ => true
  | _ => false

theorem isNext_iff (o : Out) : isNext o = true ↔ ∃ t, o = .next t := by
  cases o <;> simp [isNext]

/-- `exec i s` answers a next state. -/
abbrev Runs (i : Instr) (s : State) : Prop := isNext (exec i s) = true

/-- The step from `s` with these bytes at pc answers a next state. -/
abbrev Steps (bytes : List Byte) (s : State) : Prop := isNext (step (starting bytes s)) = true

/-- The state an outcome holds. -/
def after : Out → State
  | .next t => t
  | _ => demo

/-- These bytes decode so. -/
abbrev decodesTo (is3000A : Bool) (bytes : List Byte) (i : Instr) (rest : List Byte) : Prop :=
  (match decode is3000A bytes with
    | .ok r => r == (i, rest)
    | .error _ => false) = true

/-- The bytes at pc are fetched and decode to `i`, and no interrupt is accepted. -/
abbrev Fetches (bytes : List Byte) (s : State) (i : Instr) (rest : List Byte) : Prop :=
  (starting bytes s).acceptedIrq = none ∧
    decodesTo (starting bytes s).config.is3000A (starting bytes s).fetch i rest

theorem test_witness_DecodeInvertsEncode :
    Instr.nop.wellFormed false = true ∧ Instr.uma.wellFormed true = true := by decide

theorem test_witness_DecodedBytesAreTheEncoding :
    decodesTo true [0xDD, 0xCB, 0xFE, 0x16, 0x07] (.rlAtIXd 0xFE) [0x07] ∧ decodesTo false [0x00] .nop [] := by
  decide

theorem test_witness_LengthFromFirstBytes :
    decodesTo true [0xF7, 0x07] .mul [0x07] ∧ decodesTo true [0xED, 0x44, 0x07] .neg [0x07] ∧
    decodesTo true [0xD3, 0xED, 0xF8, 0x07] .ioiLsdr [0x07] ∧
    decodesTo true [0xC7, 0x34, 0xF2, 0x08, 0x07] (.ljp 0x08 0xF234) [0x07] := by decide

theorem test_witness_RegisterField :
    (Reg8.b, 0b000#3) ∈ [(Reg8.b, 0b000#3), (.c, 0b001#3), (.d, 0b010#3), (.e, 0b011#3), (.h, 0b100#3), (.l, 0b101#3),
      (.a, 0b111#3)] ∧
    (Alu.xor, 0b10101#5) ∈ [(Alu.or, 0b10110#5), (.sub, 0b10010#5), (.sbc, 0b10011#5), (.xor, 0b10101#5)] ∧
    (Rot.srl, 0b00111#5) ∈ [(Rot.rl, 0b00010#5), (.rlc, 0b00000#5), (.rr, 0b00011#5), (.rrc, 0b00001#5),
      (.sla, 0b00100#5), (.sra, 0b00101#5), (.srl, 0b00111#5)] := by decide

theorem test_witness_PairFields :
    (Pair.af, 0b11#2) ∈ [(Pair.bc, 0b00#2), (.de, 0b01#2), (.hl, 0b10#2), (.af, 0b11#2)] ∧
    (Ss.sp, 0b11#2) ∈ [(Ss.bc, 0b00#2), (.de, 0b01#2), (.hl, 0b10#2), (.sp, 0b11#2)] := by decide

theorem test_witness_ConditionField :
    (Cond.nz, 0b000#3, true) ∈ [(Cond.nz, 0b000#3, !flagZ demo.f), (.z, 0b001#3, flagZ demo.f)] ∧
    (Cond.m, 0b111#3, false) ∈ [(Cond.p, 0b110#3, !flagS demo.f), (.m, 0b111#3, flagS demo.f)] := by decide

theorem test_witness_BitAndRestartFields :
    (Reg8.b, 0b000#3) ∈ [(Reg8.b, 0b000#3), (.c, 0b001#3), (.d, 0b010#3), (.e, 0b011#3), (.h, 0b100#3), (.l, 0b101#3),
      (.a, 0b111#3)] ∧
    (Restart.v38, 0b111#3) ∈ [(Restart.v10, 0b010#3), (.v18, 0b011#3), (.v20, 0b100#3), (.v28, 0b101#3),
      (.v38, 0b111#3)] := by decide

theorem test_witness_IndexedBitPage :
    (0xFD#8, Index.iy) ∈ [(0xDD#8, Index.ix), (0xFD#8, .iy)] ∧
    (Rot.srl, 0x3E#8) ∈ [(Rot.rlc, 0x06#8), (.rrc, 0x0E#8), (.rl, 0x16#8), (.rr, 0x1E#8), (.sla, 0x26#8),
      (.sra, 0x2E#8), (.srl, 0x3E#8)] ∧
    BitVec.extractLsb' 0 3 0x00#8 ≠ 0b110#3 ∧ 0x36#8 = 0x36#8 ∧ (0x40#8 ≤ 0x46#8 ∧ 0x46#8 ≤ 0x7F#8) ∧
    (0x40#8 ≤ 0x7E#8 ∧ 0x7E#8 ≤ 0x7F#8) := by decide

theorem test_witness_StepRunsDecodedInstruction : Fetches [0xF7] demo .mul [] := by decide

theorem test_witness_StepRunsEncodedInstruction :
    (starting [0xED, 0xF8] demo).acceptedIrq = none ∧
    Instr.lsdr.wellFormed (starting [0xED, 0xF8] demo).config.is3000A = true ∧
    ∀ k, k < (encode .lsdr).length → (starting [0xED, 0xF8] demo).readByte
      ((starting [0xED, 0xF8] demo).pc + BitVec.ofNat 16 k) = (encode .lsdr)[k]? := by decide

/-- CF begins no instruction (R96). -/
theorem test_witness_StepRefusesUnlistedBytes :
    let s := starting [0xCF, 0x00, 0x01, 0x02] demo
    (s.acceptedIrq = none ∧ s.readByte s.pc = some 0xCF ∧ s.readByte (s.pc + 1) = some 0x00 ∧
      s.readByte (s.pc + 2) = some 0x01 ∧ s.readByte (s.pc + 3) = some 0x02) ∧
    ∀ (i : Instr) (rest : List Byte), i.wellFormed s.config.is3000A = true →
      [0xCF#8, 0x00#8, 0x01#8, 0x02#8] ≠ encode i ++ rest := by
  refine ⟨by decide, fun i rest _ h => ?_⟩
  have first : ∀ i : Instr, (encode i).head? ≠ some 0xCF#8 := by intro i h; cases i <;> cases h
  cases he : encode i with
  | nil => cases i <;> cases he
  | cons b bs => rw [he] at h; injection h with h; exact first i (by rw [he, ← h]; rfl)

theorem test_witness_AcceptedInterruptEntersHandler :
    ([.internal 0x00, .external 0x10, .address 0x5000] : List IrqTarget).all (fun target =>
      let s := { demo with irqs := [some ⟨1, target⟩] }
      decide (s.irqs = some ⟨1, target⟩ :: [] ∧ s.inhibit = false ∧ s.ip.extractLsb' 0 2 < 1#2)) = true := by decide

theorem test_witness_PrivilegedHoldOffInterrupts :
    (Fetches [0xED, 0x6F] demo .setusr [] ∧ Steps [0xED, 0x6F] demo) ∧ Fetches [0x00] demo .nop [] ∧ Steps [0x00] demo := by
  decide

theorem test_witness_UnacceptedOfferIsIgnored :
    { demo with inhibit := true, irqs := [some ⟨3, .address 0x5000⟩] }.irqs = some ⟨3, .address 0x5000⟩ :: [] ∧
    ((1#2 : BitVec 2) ≤ { demo with ip := 0x01 }.ip.extractLsb' 0 2) := by decide

theorem test_witness_StepKeepsInvariant :
    ((starting [0xF7] demo).Inv ∧ Steps [0xF7] demo) ∧
    (starting [0xF7] { demo with config := { demo.config with is3000A := false } }).Inv ∧
    Steps [0xF7] { demo with config := { demo.config with is3000A := false } } := by
  unfold State.Inv; decide

theorem test_witness_StepKeepsBaseRegistersAndParameters : Steps [0xED, 0x75] demo := by decide

theorem test_witness_TranslationFollowsSegments : demo.config.translation = .segments := by decide

theorem test_witness_WritersOfControlRegisters :
    Runs (.ljp 0x85 0xE000) demo ∧ Runs .reti demo ∧ Runs .sures demo ∧ Runs .syscall demoPush := by decide

theorem test_witness_WritersOfGeneralRegisters :
    Runs .sbcHLDE demo ∧ Runs .neg demo ∧ Runs .lsdr demo ∧ Runs .lsddr demo ∧ Runs .uma demo ∧ Runs .rlE demo := by
  decide

theorem test_witness_WritersOfPointers : Runs .uma demo ∧ Runs .rrIX demo ∧ Runs .pushIP demo ∧ Runs .retNZ demo := by
  decide

theorem test_witness_OnlyStoringInstructionsChangeMemory : Runs .mul demo ∧ ¬ Storing .mul := by
  refine ⟨by decide, ?_⟩
  simp only [Storing, Trap, Repeating]
  rintro (h | ⟨mn, h⟩ | ⟨zz, h⟩ | (h | ⟨v, h⟩) | (h | h | ⟨op, space, h⟩) | ⟨op, b, m, h⟩ | ⟨op, m, h⟩)
  · revert h; decide
  · simp at h
  · cases zz <;> cases h
  · cases h
  · cases v <;> cases h
  · cases h
  · cases h
  · cases op <;> rcases space with _ | _ | _ <;> cases h
  · cases op <;> fin_cases b <;> rcases m with _ | ⟨_ | _, d⟩ <;> cases h
  · cases op <;> rcases m with _ | ⟨_ | _, d⟩ <;> cases h

theorem test_witness_UserModeConfinesControlRegisters :
    (demoUser.config.is3000A = true ∧ demoUser.su.getLsbD 0 = true ∧ Runs .syscall demoUser ∧
      ¬ (Trap .syscall ∧ demoUser.config.suOnTrap = .pushSystem)) ∧
    demoPush.config.is3000A = true ∧ demoPush.su.getLsbD 0 = true ∧ Runs .syscall demoPush ∧
      Trap .syscall ∧ demoPush.config.suOnTrap = .pushSystem := by
  refine ⟨⟨by decide, by decide, by decide, fun h => ?_⟩, by decide, by decide, by decide, .inl rfl, by decide⟩
  exact absurd h.2 (by decide)

/-- RefusalsAreTheSpecs has no hypothesis; both of its cases occur. -/
theorem test_witness_RefusalsAreTheSpecs :
    refusedAs (exec .sures demoUser) .privilegedInUserMode ∧
    refusedAs (exec (.ljp 0x85 0xDFFF) demo) .ljpTargetOutsideWindow ∧ Runs (.ljp 0x85 0xE000) demo := by decide

theorem test_witness_StepRunsUnlessMemoryIsUnwritten :
    Fetches [0xC7, 0x00, 0xE0, 0x85] demo (.ljp 0x85 0xE000) [] ∧
    ¬ (Privileged (.ljp 0x85 0xE000) ∧ (starting [0xC7, 0x00, 0xE0, 0x85] demo).userMode = true) ∧
    KeepsLjpRule (.ljp 0x85 0xE000) (starting [0xC7, 0x00, 0xE0, 0x85] demo) := by
  refine ⟨by decide, fun h => absurd h.2 (by decide), fun x mn h => ?_⟩
  simp only [Instr.ljp.injEq] at h; rw [← h.2]; exact .inl (by decide)

theorem test_witness_PcAdvances :
    (Runs .nop demo ∧ ¬ Transfer .nop) ∧
    (Runs .lsdr demo ∧ ¬ Transfer .lsdr ∧ Repeating .lsdr ∧ (after (exec .lsdr demo)).bc ≠ 0) ∧
    (Runs .lsdr { demo with c := 0x01 } ∧ (after (exec .lsdr { demo with c := 0x01 })).bc = 0) := by
  refine ⟨⟨by decide, ?_⟩, ⟨by decide, ?_, .inr (.inr ⟨.lsdr, none, rfl⟩), by decide⟩, by decide⟩
  all_goals
    rintro (⟨x, mn, h⟩ | h | ⟨f, h⟩ | h | ⟨v, h⟩)
    · cases h
    · revert h; decide
    · cases f <;> cases h
    · cases h
    · cases v <;> cases h

theorem test_witness_LdpStores :
    (Instr.ldpAtHLHL, demo.hl, demo.hl) ∈ [(.ldpAtHLHL, demo.hl, demo.hl), (.ldpAtIXHL, demo.ix, demo.hl),
      (.ldpAtIYHL, demo.iy, demo.hl), (.ldpAtMnHL 0xFFFF, 0xFFFF, demo.hl), (.ldpAtMnIX 0xFFFF, 0xFFFF, demo.ix),
      (.ldpAtMnIY 0xFFFF, 0xFFFF, demo.iy)] := by decide

theorem test_witness_LdpLoads :
    demo.mem.read (demo.a.extractLsb' 0 4 ++ demo.hl) = some 0x11 ∧
    demo.mem.read (demo.a.extractLsb' 0 4 ++ (demo.hl + 1)) = some 0x22 ∧
    (Instr.ldpHLAtHL, demo.hl) ∈ [(.ldpHLAtHL, demo.hl), (.ldpHLAtIX, demo.ix), (.ldpHLAtIY, demo.iy),
      (.ldpHLAtMn 0x1000, 0x1000)] ∧ demo.hl = 0x1000 := by decide

theorem test_witness_LjpLoadsXpcAndPc :
    0xE000#16 ≤ 0xE000#16 ∧
    ({ demo with config := { demo.config with ljpAnyTarget := true } }).config.ljpAnyTarget = true := by decide

theorem test_witness_LretPopsPcAndXpc :
    demo.readByte demo.sp = some 0x05 ∧ demo.readByte (demo.sp + 1) = some 0x34 ∧
    demo.readByte (demo.sp + 2) = some 0x12 := by decide

theorem test_witness_RetPopsPc :
    (Instr.retNZ, true) ∈ [(.ret, true), (.retNZ, !flagZ demo.f), (.retZ, flagZ demo.f), (.retNC, !flagC demo.f)] ∧
    (Instr.retZ, false) ∈ [(.ret, true), (.retNZ, !flagZ demo.f), (.retZ, flagZ demo.f), (.retNC, !flagC demo.f)] ∧
    demo.readByte demo.sp = some 0x05 ∧ demo.readByte (demo.sp + 1) = some 0x34 := by decide

theorem test_witness_RetiPopsIpAndPc :
    demo.userMode = false ∧ demo.readByte demo.sp = some 0x05 ∧ demo.readByte (demo.sp + 1) = some 0x34 ∧
    demo.readByte (demo.sp + 2) = some 0x12 := by decide

theorem test_witness_TrapsEnterTheTable :
    (Instr.syscall, 0x60#8) ∈ [(.rst10, 0x20#8), (.rst18, 0x30#8), (.rst20, 0x40#8), (.rst28, 0x50#8), (.rst38, 0x70#8),
      (.syscall, 0x60#8)] ∧
    0x4002#16 = demo.pc + BitVec.ofNat 16 (encode .syscall).length := by decide

theorem test_witness_RetReturnsFromTrap : Trap .rst10 ∧ Runs .rst10 demo ∧ demo.config.translation = .segments :=
  ⟨.inr ⟨.v10, rfl⟩, by decide, by decide⟩

theorem test_witness_BlockCopyIteration :
    (Instr.lsddr, (-1 : Word), (0 : Word)) ∈ [(.lsdr, -1, -1), (.lsir, 1, 1), (.lsddr, -1, 0), (.lsidr, 1, 0)] ∧
    demo.readByte demo.hl = some 0x11 := by decide

/-- One witness for a prefix of each space, and for a list of answers that holds one and one that is empty. -/
theorem test_witness_PrefixedBlockCopyIteration :
    ((Instr.ioiLsdr, IoSpace.internal, (-1 : Word), (-1 : Word)) ∈ [(.ioiLsdr, .internal, -1, -1),
      (.ioiLsir, .internal, 1, 1), (.ioiLsddr, .internal, -1, 0), (.ioiLsidr, .internal, 1, 0)]) ∧
    ((Instr.ioeLsidr, IoSpace.external, (1 : Word), (0 : Word)) ∈ [(.ioeLsdr, .external, -1, -1),
      (.ioeLsir, .external, 1, 1), (.ioeLsddr, .external, -1, 0), (.ioeLsidr, .external, 1, 0)]) ∧
    { demo with ioAnswers := [0x41, 0x42] }.ioAnswers = 0x41 :: [0x42] ∧ demo.ioAnswers = [] := by decide

theorem test_witness_UmaIteration : demo.readByte demo.iy = some 0x22 ∧ demo.readByte demo.ix = some 0x11 := by decide

/-- Both readings that fix a value, and the sum of the statement. -/
theorem test_witness_UmsIteration :
    demo.readByte demo.iy = some 0x22 ∧ demo.readByte demo.ix = some 0x11 ∧
    0x44000 = (0x22#8).toNat * demo.de.toNat + demo.deAlt.toNat + (flagC demo.f).toNat ∧
    demo.config.umsReading = .literal ∧
    { demo with config := { demo.config with umsReading := .borrowChain } }.config.umsReading = .borrowChain := by decide

theorem test_witness_SubAndNegResult :
    (demo.a = demo.a ∧ AluOperand .sub demo (.aluReg .sub .h) 0x10) ∧
    AluOperand .sub demo (.aluAt .sub .hl) 0x11 ∧ AluOperand .sub demo (.aluN .sub 0xFF) 0xFF ∧
    Instr.neg = .neg ∧ (0x00#8) = 0 ∧ 0x00#8 = demo.a :=
  ⟨⟨rfl, .inl ⟨.h, rfl, by decide⟩⟩, .inr (.inr ⟨.hl, 0x1000, rfl, by unfold AddressOf; decide, by decide⟩),
    .inr (.inl rfl), rfl, rfl, by decide⟩

theorem test_witness_SbcResult :
    AluOperand .sbc demo (.aluReg .sbc .h) 0x10 ∧ AluOperand .sbc demo (.aluAt .sbc (.indexed .ix 0x01)) 0x22 ∧
    AluOperand .sbc demo (.aluN .sbc 0xFF) 0xFF ∧ 0 = (flagC demo.f).toNat :=
  ⟨.inl ⟨.h, rfl, by decide⟩,
    .inr (.inr ⟨.indexed .ix 0x01, 0x1001, rfl, by unfold AddressOf; decide, by decide⟩), .inr (.inl rfl), by decide⟩

theorem test_witness_SbcHlResult :
    (Instr.sbcHLSP, demo.sp) ∈ [(.sbcHLBC, demo.bc), (.sbcHLDE, demo.de), (.sbcHLHL, demo.hl), (.sbcHLSP, demo.sp)] ∧
    0 = (flagC demo.f).toNat := by decide

theorem test_witness_OrXorResult :
    AluOperand .xor demo (.aluAt .xor (.indexed .iy 0xFF)) 0x11 ∧
    (Alu.xor, 0x11#8) ∈ [(Alu.or, demo.a ||| 0x11), (.xor, demo.a ^^^ 0x11)] ∧
    AluOperand .or demo (.aluReg .or .h) 0x10 ∧
    (Alu.or, 0x10#8) ∈ [(Alu.or, demo.a ||| 0x10), (.xor, demo.a ^^^ 0x10)] :=
  ⟨.inr (.inr ⟨.indexed .iy 0xFF, 0x1000, rfl, by unfold AddressOf; decide, by decide⟩), by decide, .inl ⟨.h, rfl, by decide⟩, by decide⟩

theorem test_witness_PopWords : demo.readByte demo.sp = some 0x05 ∧ demo.readByte (demo.sp + 1) = some 0x34 := by decide

theorem test_witness_PopIpAndSu : demo.userMode = false ∧ demo.readByte demo.sp = some 0x05 := by decide

theorem test_witness_PushWords :
    (Instr.pushIY, demo.iy.extractLsb' 8 8, demo.iy.extractLsb' 0 8) ∈ [(.pushBC, demo.b, demo.c),
      (.pushDE, demo.d, demo.e), (.pushHL, demo.h, demo.l), (.pushIX, demo.ix.extractLsb' 8 8, demo.ix.extractLsb' 0 8),
      (.pushIY, demo.iy.extractLsb' 8 8, demo.iy.extractLsb' 0 8)] := by decide

theorem test_witness_PushAf : demo.config.flagTableTrusted = true := by decide

theorem test_witness_PushIpAndSu : demo.userMode = false := by decide

theorem test_witness_PopUndoesPush :
    (Pair.de, demo.de) ∈ [(.bc, demo.bc), (.de, demo.de), (.hl, demo.hl)] ∧ Pair.hl ≠ .af ∧ Runs (.pushPair .de) demo ∧
    demo.config.translation = .segments := by decide

theorem test_witness_BitOfMemory :
    demo.readByte (demo.ea (.indexed .iy 0xFF)) = some 0x11 ∧ demo.readByte (demo.ea .hl) = some 0x11 := by decide

theorem test_witness_RotateOfRegister :
    (Rot.srl, (0x08 : Byte), false) ∈
      [(.rl, (demo.getR .h).extractLsb' 0 7 ++ BitVec.ofBool (flagC demo.f), (demo.getR .h).getLsbD 7),
       (.srl, demo.getR .h >>> 1, (demo.getR .h).getLsbD 0)] := by decide

theorem test_witness_RotateOfMemory :
    demo.readByte (demo.ea .hl) = some 0x11 ∧
    (Rot.sla, (0x22 : Byte), false) ∈
      [(.rl, (0x11#8).extractLsb' 0 7 ++ BitVec.ofBool (flagC demo.f), (0x11#8).getLsbD 7),
       (.sla, 0x11#8 <<< 1, (0x11#8).getLsbD 7)] := by decide

theorem test_witness_RotateOfAccumulator :
    (Instr.rrca, demo.a.rotateRight 1, demo.a.getLsbD 0) ∈
      [(.rlca, demo.a.rotateLeft 1, demo.a.getLsbD 7), (.rrca, demo.a.rotateRight 1, demo.a.getLsbD 0)] := by decide

theorem test_witness_RotateOfWord :
    0 = (flagC demo.f).toNat ∧ (Instr.rrIY, demo.iy) ∈
      [(.rrDE, demo.de), (.rrHL, demo.hl), (.rrIX, demo.ix), (.rrIY, demo.iy)] := by decide

theorem test_witness_ModeInstructions : demo.userMode = false := by decide

end Sys2Proof.Tests
end

section
/-! PROOFS. The encoding statements of 30_encoding.md whose subject is a field of an opcode byte (R93 to R95) or the
fourth byte of the indexed CB pages (R102). First what the fields of an assembled byte are, then what each page of the
decoder answers in terms of those fields, and then the statements. -/

namespace Sys2Proof.EncodingFields

/-! ## The fields of an assembled opcode byte -/

/-- A field of three bits below the others, in arithmetic. -/
theorem toNat_append_field {w : Nat} (x : BitVec w) (z : BitVec 3) : (x ++ z).toNat = x.toNat * 8 + z.toNat := by
  rw [BitVec.toNat_append, Nat.shiftLeft_eq, Nat.mul_comm, ← Nat.two_pow_add_eq_or_of_lt z.isLt, Nat.mul_comm]

@[simp] theorem fieldX_append (base : BitVec 5) (z : BitVec 3) : fieldX (base ++ z) = base.toNat / 8 := by
  have := z.isLt
  rw [fieldX, toNat_append_field]; omega

@[simp] theorem fieldY_append (base : BitVec 5) (z : BitVec 3) :
    fieldY (base ++ z) = Fin.ofNat 8 base.toNat := by
  have := z.isLt
  rw [fieldY, toNat_append_field]; congr 1; omega

@[simp] theorem fieldZ_append (base : BitVec 5) (z : BitVec 3) : fieldZ (base ++ z) = z.toFin := by
  have := z.isLt
  apply Fin.ext
  rw [fieldZ, toNat_append_field, Fin.val_ofNat, BitVec.val_toFin]; omega

theorem fieldX_append_append (x : BitVec 2) (y z : BitVec 3) : fieldX (x ++ y ++ z) = x.toNat := by
  have := y.isLt
  rw [fieldX_append, toNat_append_field]; omega

theorem fieldY_append_append (x : BitVec 2) (y z : BitVec 3) : fieldY (x ++ y ++ z) = y.toFin := by
  have := y.isLt
  apply Fin.ext
  rw [fieldY_append, toNat_append_field, Fin.val_ofNat, BitVec.val_toFin]; omega

theorem fieldZ_eq_extractLsb' (b : Byte) : fieldZ b = (b.extractLsb' 0 3).toFin := by
  apply Fin.ext; simp [fieldZ]

/-- The field 110 is the one that names no register. -/
theorem regOfField_eq_none_iff (z : Fin 8) : regOfField z = none ↔ z = 6 := by
  revert z; decide

/-! ## What each page answers, by the fields of its byte -/

/-- A row of level BASE decodes alike on every part (R6). -/
theorem decode_of_decodeAny {bs rest : List Byte} {i : Instr} (h : decodeAny bs = .ok (i, rest))
    (base : i.needs3000A = false) (is3000A : Bool) : decode is3000A bs = .ok (i, rest) := by
  simp [decode, h, Instr.wellFormed, base]

theorem decodeAny_of_decodeOne {b : Byte} {i : Instr} (h : decodeOne b = some i) (rest : List Byte) :
    decodeAny (b :: rest) = .ok (i, rest) := by
  have escapes : ∀ b : Byte, b.toNat ∈ [0xCB, 0xED, 0xDD, 0xFD, 0xD3, 0xDB, 0xC7, 0xD6, 0xDE, 0xEE, 0xF6] →
      decodeOne b = none := by decide
  have noEscape := mt (escapes b) (by simp [h])
  simp only [decodeAny]
  split
  case h_12 => rw [h]; rfl
  all_goals simp_all

theorem needs3000A_of_decodeOne {b : Byte} {i : Instr} (h : decodeOne b = some i) : i.needs3000A = false := by
  have all : ∀ b : Byte, (decodeOne b).all (!·.needs3000A) = true := by decide
  simpa [h] using all b

theorem needs3000A_of_decodeCB {op : Byte} {i : Instr} (h : decodeCB op = some i) : i.needs3000A = false := by
  have all : ∀ op : Byte, (decodeCB op).all (!·.needs3000A) = true := by decide
  simpa [h] using all op

/-- A one-byte instruction decodes from its byte on every part, whatever follows (R98). -/
theorem decode_of_decodeOne {b : Byte} {i : Instr} (h : decodeOne b = some i) (is3000A : Bool) (rest : List Byte) :
    decode is3000A (b :: rest) = .ok (i, rest) :=
  decode_of_decodeAny (decodeAny_of_decodeOne h rest) (needs3000A_of_decodeOne h) is3000A

/-- An instruction of the CB page decodes from its two bytes on every part, whatever follows (R100). -/
theorem decode_of_decodeCB {op : Byte} {i : Instr} (h : decodeCB op = some i) (is3000A : Bool) (rest : List Byte) :
    decode is3000A (0xCB#8 :: op :: rest) = .ok (i, rest) := by
  have any : decodeAny (0xCB#8 :: op :: rest) = done (decodeCB op) rest := rfl
  exact decode_of_decodeAny (by rw [any, h]; rfl) (needs3000A_of_decodeCB h) is3000A

section
variable {b : Byte} {op : Alu} {r : Reg8}

theorem decodeOne_aluReg (hx : fieldX b = 2) (hy : aluOfField (fieldY b) = some op)
    (hz : regOfField (fieldZ b) = some r) : decodeOne b = some (.aluReg op r) := by
  simp [decodeOne, hx, hy, hz]

theorem decodeOne_aluAt (hx : fieldX b = 2) (hy : aluOfField (fieldY b) = some op)
    (hz : regOfField (fieldZ b) = none) : decodeOne b = some (.aluAt op .hl) := by
  simp [decodeOne, hx, hy, hz]

theorem decodeOne_retIf (hx : fieldX b = 3) (hz : fieldZ b = 0) :
    decodeOne b = some (.retIf (condOfField (fieldY b))) := by
  simp [decodeOne, hx, hz]

end

section
variable {op : Byte} {o : Rot} {r : Reg8}

theorem decodeCB_rotReg (hx : fieldX op = 0) (hy : rotOfField (fieldY op) = some o)
    (hz : regOfField (fieldZ op) = some r) : decodeCB op = some (.rotReg o r) := by
  simp [decodeCB, hx, hy, hz]

theorem decodeCB_rotAt (hx : fieldX op = 0) (hy : rotOfField (fieldY op) = some o)
    (hz : regOfField (fieldZ op) = none) : decodeCB op = some (.rotAt o .hl) := by
  simp [decodeCB, hx, hy, hz]

end

/-! ## The register field (R93) -/

theorem regOfField_of_mem {r : Reg8} {field : BitVec 3}
    (h : (r, field) ∈ [(.b, 0b000#3), (.c, 0b001#3), (.d, 0b010#3), (.e, 0b011#3), (.h, 0b100#3), (.l, 0b101#3),
      (.a, 0b111#3)]) : regOfField field.toFin = some r := by
  have all : ∀ p ∈ [(Reg8.b, 0b000#3), (.c, 0b001#3), (.d, 0b010#3), (.e, 0b011#3), (.h, 0b100#3), (.l, 0b101#3),
      (.a, 0b111#3)], regOfField p.2.toFin = some p.1 := by decide
  exact all _ h

theorem aluOfField_of_mem {op : Alu} {base : BitVec 5}
    (h : (op, base) ∈ [(.or, 0b10110#5), (.sub, 0b10010#5), (.sbc, 0b10011#5), (.xor, 0b10101#5)]) :
    base.toNat / 8 = 2 ∧ aluOfField (Fin.ofNat 8 base.toNat) = some op := by
  have all : ∀ p ∈ [(Alu.or, 0b10110#5), (.sub, 0b10010#5), (.sbc, 0b10011#5), (.xor, 0b10101#5)],
      p.2.toNat / 8 = 2 ∧ aluOfField (Fin.ofNat 8 p.2.toNat) = some p.1 := by decide
  exact all _ h

theorem rotOfField_of_mem {o : Rot} {base : BitVec 5}
    (h : (o, base) ∈ [(.rl, 0b00010#5), (.rlc, 0b00000#5), (.rr, 0b00011#5), (.rrc, 0b00001#5), (.sla, 0b00100#5),
      (.sra, 0b00101#5), (.srl, 0b00111#5)]) :
    base.toNat / 8 = 0 ∧ rotOfField (Fin.ofNat 8 base.toNat) = some o := by
  have all : ∀ p ∈ [(Rot.rl, 0b00010#5), (.rlc, 0b00000#5), (.rr, 0b00011#5), (.rrc, 0b00001#5), (.sla, 0b00100#5),
      (.sra, 0b00101#5), (.srl, 0b00111#5)],
      p.2.toNat / 8 = 0 ∧ rotOfField (Fin.ofNat 8 p.2.toNat) = some p.1 := by decide
  exact all _ h

/-- Settles O4: each row decodes by its fields, and the tables of R93, R98 and R100 give what each field selects. -/
theorem registerField : Obligations.RegisterField := by
  intro is3000A rest r field hr
  have reg : regOfField field.toFin = some r := regOfField_of_mem hr
  refine ⟨fun op base hop => ?_, fun op base hop => ?_⟩
  · obtain ⟨hx, hy⟩ := aluOfField_of_mem hop
    exact ⟨decode_of_decodeOne (decodeOne_aluReg (by simpa using hx) (by simpa using hy) (by simpa using reg)) ..,
      decode_of_decodeOne (decodeOne_aluAt (by simpa using hx) (by simpa using hy) (by simp; rfl)) ..⟩
  · obtain ⟨hx, hy⟩ := rotOfField_of_mem hop
    exact ⟨decode_of_decodeCB (decodeCB_rotReg (by simpa using hx) (by simpa using hy) (by simpa using reg)) ..,
      decode_of_decodeCB (decodeCB_rotAt (by simpa using hx) (by simpa using hy) (by simp; rfl)) ..⟩

/-! ## The pair fields (R94) -/

theorem decodeOne_popPair_pushPair {zz : Pair} {field : BitVec 2}
    (h : (zz, field) ∈ [(.bc, 0b00#2), (.de, 0b01#2), (.hl, 0b10#2), (.af, 0b11#2)]) :
    decodeOne (0b11#2 ++ field ++ 0b0001#4) = some (.popPair zz) ∧
      decodeOne (0b11#2 ++ field ++ 0b0101#4) = some (.pushPair zz) := by
  simp only [List.mem_cons, Prod.mk.injEq, List.not_mem_nil, or_false] at h
  obtain ⟨rfl, rfl⟩ | ⟨rfl, rfl⟩ | ⟨rfl, rfl⟩ | ⟨rfl, rfl⟩ := h <;> exact ⟨rfl, rfl⟩

theorem decodeAny_pageED (op : Byte) (rest : List Byte) : decodeAny (0xED#8 :: op :: rest) = decodeED op rest := rfl

theorem decodeED_sbcHL {ss : Ss} {field : BitVec 2} (rest : List Byte)
    (h : (ss, field) ∈ [(.bc, 0b00#2), (.de, 0b01#2), (.hl, 0b10#2), (.sp, 0b11#2)]) :
    decodeED (0b01#2 ++ field ++ 0b0010#4) rest = .ok (.sbcHL ss, rest) := by
  simp only [List.mem_cons, Prod.mk.injEq, List.not_mem_nil, or_false] at h
  obtain ⟨rfl, rfl⟩ | ⟨rfl, rfl⟩ | ⟨rfl, rfl⟩ | ⟨rfl, rfl⟩ := h <;> rfl

theorem needs3000A_sbcHL (ss : Ss) : (Instr.sbcHL ss).needs3000A = false := by cases ss <;> rfl

/-- Settles O5: POP and PUSH are one-byte rows of R98, SBC HL,ss is a row of the ED page. -/
theorem pairFields : Obligations.PairFields := by
  intro is3000A rest
  refine ⟨fun zz field hzz => ?_, fun ss field hss => ?_⟩
  · obtain ⟨hpop, hpush⟩ := decodeOne_popPair_pushPair hzz
    exact ⟨decode_of_decodeOne hpop .., decode_of_decodeOne hpush ..⟩
  · exact decode_of_decodeAny ((decodeAny_pageED ..).trans (decodeED_sbcHL rest hss)) (needs3000A_sbcHL ss) is3000A

/-! ## The condition field (R95, R29) -/

theorem condOfField_and_holds_of_mem {s : Machine.State} {f : Cond} {field : BitVec 3} {truth : Bool}
    (h : (f, field, truth) ∈ [(.nz, 0b000#3, !Machine.flagZ s.f), (.z, 0b001#3, Machine.flagZ s.f),
      (.nc, 0b010#3, !Machine.flagC s.f), (.c, 0b011#3, Machine.flagC s.f), (.lz, 0b100#3, !Machine.flagLV s.f),
      (.lo, 0b101#3, Machine.flagLV s.f), (.p, 0b110#3, !Machine.flagS s.f), (.m, 0b111#3, Machine.flagS s.f)]) :
    condOfField field.toFin = f ∧ s.holds f = truth := by
  simp only [List.mem_cons, Prod.mk.injEq, List.not_mem_nil, or_false] at h
  obtain ⟨rfl, rfl, rfl⟩ | ⟨rfl, rfl, rfl⟩ | ⟨rfl, rfl, rfl⟩ | ⟨rfl, rfl, rfl⟩ | ⟨rfl, rfl, rfl⟩ | ⟨rfl, rfl, rfl⟩ |
    ⟨rfl, rfl, rfl⟩ | ⟨rfl, rfl, rfl⟩ := h <;> exact ⟨rfl, rfl⟩

/-- Settles O6: the byte 11fff000 is read by its fields, and R95's table and R29's agree with the decoder's and the
machine's row by row. -/
theorem conditionField : Obligations.ConditionField := by
  intro is3000A rest s f field truth h
  obtain ⟨hcond, hholds⟩ := condOfField_and_holds_of_mem h
  have hx : fieldX (0b11#2 ++ field ++ 0b000#3) = 3 := fieldX_append_append ..
  have hz : fieldZ (0b11#2 ++ field ++ 0b000#3) = 0 := fieldZ_append ..
  have row : decodeOne (0b11#2 ++ field ++ 0b000#3) = some (.retIf f) := by
    rw [decodeOne_retIf hx hz, fieldY_append_append, hcond]
  exact ⟨decode_of_decodeOne row is3000A rest, hholds⟩

/-! ## The indexed CB pages (R102) -/

theorem needs3000A_rotAt (o : Rot) (m : MemArg) : (Instr.rotAt o m).needs3000A = false := by
  rcases m with _ | ⟨_ | _, d⟩ <;> cases o <;> rfl

theorem needs3000A_resAt (b : Fin 8) (m : MemArg) : (Instr.resAt b m).needs3000A = false := by
  rcases m with _ | ⟨_ | _, d⟩ <;> fin_cases b <;> rfl

theorem needs3000A_setAt (b : Fin 8) (m : MemArg) : (Instr.setAt b m).needs3000A = false := by
  rcases m with _ | ⟨_ | _, d⟩ <;> fin_cases b <;> rfl

theorem needs3000A_of_decodeIndexedCB {i : Index} {d op : Byte} {x : Instr} (h : decodeIndexedCB i d op = some x) :
    x.needs3000A = false := by
  unfold decodeIndexedCB at h
  split at h
  · split at h
    · cases h; exact needs3000A_rotAt ..
    · cases h
  · cases h; exact needs3000A_resAt ..
  · cases h; exact needs3000A_setAt ..
  · cases h

section
variable {i : Index} {d op : Byte}

theorem decodeIndexedCB_rotAt {o : Rot} (hx : fieldX op = 0) (hy : rotOfField (fieldY op) = some o)
    (hz : fieldZ op = 6) : decodeIndexedCB i d op = some (.rotAt o (.indexed i d)) := by
  simp [decodeIndexedCB, hx, hy, hz, regOfField]

theorem decodeIndexedCB_resAt (hx : fieldX op = 2) (hz : fieldZ op = 6) :
    decodeIndexedCB i d op = some (.resAt (fieldY op) (.indexed i d)) := by
  simp [decodeIndexedCB, hx, hz, regOfField]

theorem decodeIndexedCB_setAt (hx : fieldX op = 3) (hz : fieldZ op = 6) :
    decodeIndexedCB i d op = some (.setAt (fieldY op) (.indexed i d)) := by
  simp [decodeIndexedCB, hx, hz, regOfField]

/-- The page is listed only under the operand field 110. -/
theorem decodeIndexedCB_of_fieldZ_ne (hz : fieldZ op ≠ 6) : decodeIndexedCB i d op = none := by
  obtain ⟨r, hr⟩ := Option.ne_none_iff_exists'.mp (mt (regOfField_eq_none_iff _).mp hz)
  simp [decodeIndexedCB, hr]

/-- The quarter 40 to 7F of the page is empty. -/
theorem decodeIndexedCB_of_fieldX_eq_one (hx : fieldX op = 1) : decodeIndexedCB i d op = none := by
  simp [decodeIndexedCB, hx]

end

/-- Both pages hand the fourth byte to one decoder, on every part alike. -/
theorem decode_indexedCB {first : Byte} {i : Index} (h : (first, i) ∈ [(0xDD#8, .ix), (0xFD#8, .iy)])
    (is3000A : Bool) (d op : Byte) (rest : List Byte) :
    decode is3000A (first :: 0xCB#8 :: d :: op :: rest) = done (decodeIndexedCB i d op) rest := by
  have any : decodeAny (first :: 0xCB#8 :: d :: op :: rest) = done (decodeIndexedCB i d op) rest := by
    simp only [List.mem_cons, Prod.mk.injEq, List.not_mem_nil, or_false] at h
    obtain ⟨rfl, rfl⟩ | ⟨rfl, rfl⟩ := h <;> rfl
  cases hop : decodeIndexedCB i d op with
  | none => simp [decode, any, hop, done]
  | some x => exact decode_of_decodeAny (by rw [any, hop]; rfl) (needs3000A_of_decodeIndexedCB hop) is3000A

theorem fields_of_mem_indexedRotate {o : Rot} {op : Byte}
    (h : (o, op) ∈ [(.rlc, 0x06#8), (.rrc, 0x0E#8), (.rl, 0x16#8), (.rr, 0x1E#8), (.sla, 0x26#8), (.sra, 0x2E#8),
      (.srl, 0x3E#8)]) : fieldX op = 0 ∧ rotOfField (fieldY op) = some o ∧ fieldZ op = 6 := by
  have all : ∀ p ∈ [(Rot.rlc, 0x06#8), (.rrc, 0x0E#8), (.rl, 0x16#8), (.rr, 0x1E#8), (.sla, 0x26#8), (.sra, 0x2E#8),
      (.srl, 0x3E#8)], fieldX p.2 = 0 ∧ rotOfField (fieldY p.2) = some p.1 ∧ fieldZ p.2 = 6 := by decide
  exact all _ h

theorem fields_indexedRes (b : Fin 8) : fieldX (BitVec.ofNat 8 (0x86 + 8 * b.val)) = 2 ∧
    fieldY (BitVec.ofNat 8 (0x86 + 8 * b.val)) = b ∧ fieldZ (BitVec.ofNat 8 (0x86 + 8 * b.val)) = 6 := by
  revert b; decide

theorem fields_indexedSet (b : Fin 8) : fieldX (BitVec.ofNat 8 (0xC6 + 8 * b.val)) = 3 ∧
    fieldY (BitVec.ofNat 8 (0xC6 + 8 * b.val)) = b ∧ fieldZ (BitVec.ofNat 8 (0xC6 + 8 * b.val)) = 6 := by
  revert b; decide

/-- The three ways R102 says a fourth byte is not in the source. -/
theorem decodeIndexedCB_of_unlisted (i : Index) (d : Byte) {op : Byte}
    (h : op.extractLsb' 0 3 ≠ 0b110#3 ∨ op = 0x36#8 ∨ (0x40#8 ≤ op ∧ op ≤ 0x7F#8)) :
    decodeIndexedCB i d op = none := by
  rcases h with hz | rfl | ⟨hlo, hhi⟩
  · refine decodeIndexedCB_of_fieldZ_ne fun h6 => hz ?_
    rw [fieldZ_eq_extractLsb'] at h6
    exact BitVec.eq_of_toFin_eq h6
  · rfl
  · have hlo : 0x40 ≤ op.toNat := hlo
    have hhi : op.toNat ≤ 0x7F := hhi
    exact decodeIndexedCB_of_fieldX_eq_one (by rw [fieldX]; omega)

/-- Settles O8: the fourth byte is read by its fields, so each listed byte names its row and each unlisted one none. -/
theorem indexedBitPage : Obligations.IndexedBitPage := by
  intro is3000A first i d rest hfirst
  refine ⟨fun o op hop => ?_, fun b => ⟨?_, ?_⟩, fun op hop => ?_⟩
  · obtain ⟨hx, hy, hz⟩ := fields_of_mem_indexedRotate hop
    rw [decode_indexedCB hfirst, decodeIndexedCB_rotAt hx hy hz]; rfl
  · obtain ⟨hx, hy, hz⟩ := fields_indexedRes b
    rw [decode_indexedCB hfirst, decodeIndexedCB_resAt hx hz, hy]; rfl
  · obtain ⟨hx, hy, hz⟩ := fields_indexedSet b
    rw [decode_indexedCB hfirst, decodeIndexedCB_setAt hx hz, hy]; rfl
  · rw [decode_indexedCB hfirst, decodeIndexedCB_of_unlisted i d hop]; rfl

end Sys2Proof.EncodingFields
end

section
/-! PROOFS. The encoding statements over the whole table (30_encoding.md R91, R98 to R104): decoding inverts encoding,
whatever decodes is an encoding, and the first bytes give the length. First what each page of the decoder accepts, said
with the encoder's rows, and then the statements. -/

namespace Sys2Proof.RoundTrip

/-! ## Decoding what was encoded -/

/-- A 16-bit constant stands low byte first, so the decoder puts its halves back together; every other row is read
byte by byte. -/
theorem decodeAny_encode (i : Instr) (rest : List Byte) : decodeAny (encode i ++ rest) = .ok (i, rest) := by
  have operand (f : Word → Instr) (mn : Word) :
      (.ok (f (word (hiByte mn) (loByte mn)), rest) : Decoded) = .ok (f mn, rest) := by
    rw [Machine.word_hiByte_loByte]
  cases i with
  | ldpAtMnHL mn => exact operand .ldpAtMnHL mn
  | ldpAtMnIX mn => exact operand .ldpAtMnIX mn
  | ldpAtMnIY mn => exact operand .ldpAtMnIY mn
  | ldpHLAtMn mn => exact operand .ldpHLAtMn mn
  | ldpIXAtMn mn => exact operand .ldpIXAtMn mn
  | ldpIYAtMn mn => exact operand .ldpIYAtMn mn
  | ljp x mn => exact operand (.ljp x) mn
  | _ => rfl

theorem decode_encode {is3000A : Bool} {i : Instr} (h : i.wellFormed is3000A = true) (rest : List Byte) :
    decode is3000A (encode i ++ rest) = .ok (i, rest) := by
  simp [decode, decodeAny_encode, h]

/-- Settles O1: the rows of the part are among those `decodeAny` reads back. -/
theorem decodeInvertsEncode : Obligations.DecodeInvertsEncode :=
  fun _ _ rest h => decode_encode h rest

/-! ## RES and SET on the CB page, by the fields of the byte (R100) -/

section
variable {op : Byte} {r : Reg8}

theorem decodeCB_resReg (hx : fieldX op = 2) (hz : regOfField (fieldZ op) = some r) :
    decodeCB op = some (.resReg (fieldY op) r) := by simp [decodeCB, hx, hz]

theorem decodeCB_setReg (hx : fieldX op = 3) (hz : regOfField (fieldZ op) = some r) :
    decodeCB op = some (.setReg (fieldY op) r) := by simp [decodeCB, hx, hz]

theorem decodeCB_resAt (hx : fieldX op = 2) (hz : regOfField (fieldZ op) = none) :
    decodeCB op = some (.resAt (fieldY op) .hl) := by simp [decodeCB, hx, hz]

theorem decodeCB_setAt (hx : fieldX op = 3) (hz : regOfField (fieldZ op) = none) :
    decodeCB op = some (.setAt (fieldY op) .hl) := by simp [decodeCB, hx, hz]

end

/-! ## What each page accepts, with the encoder's rows -/

section
variable {bs rest : List Byte} {i : Instr}

theorem withByte_encode {f : Byte → Instr} {pre : List Byte} (hf : ∀ n, encode (f n) = pre ++ [n])
    (h : withByte f bs = .ok (i, rest)) : pre ++ bs = encode i ++ rest := by
  obtain ⟨n, rfl, rfl⟩ := withByte_ok h
  simp [hf]

theorem withWord_encode {f : Word → Instr} {pre : List Byte}
    (hf : ∀ mn, encode (f mn) = pre ++ [loByte mn, hiByte mn]) (h : withWord f bs = .ok (i, rest)) :
    pre ++ bs = encode i ++ rest := by
  obtain ⟨lo, hi, rfl, rfl⟩ := withWord_ok h
  simp [hf]

theorem done_encode {o : Option Instr} {pre : List Byte} (ho : ∀ i, o = some i → encode i = pre)
    (h : done o bs = .ok (i, rest)) : pre ++ bs = encode i ++ rest := by
  obtain ⟨ho', rfl⟩ := done_ok h
  rw [ho i ho']

theorem ok_encode {j : Instr} {pre : List Byte} (hj : encode j = pre) (h : (.ok (j, bs) : Decoded) = .ok (i, rest)) :
    pre ++ bs = encode i ++ rest := by
  cases h
  rw [hj]

end

theorem decodeED_encode {b : Byte} {bs rest : List Byte} {i : Instr} (h : decodeED b bs = .ok (i, rest)) :
    0xED#8 :: b :: bs = encode i ++ rest := by
  unfold decodeED at h
  split at h <;> rename_i hb
  case h_22 =>
    refine done_encode (pre := [0xED#8, b]) (fun i hi => ?_) h
    obtain ⟨c, hc, rfl⟩ := Option.map_eq_some_iff.mp hi
    exact (copyOfByte_encode b c hc).1
  all_goals rw [byte_eq_ofNat hb]
  case h_20 => exact withWord_encode (pre := [0xED#8, 0x65#8]) (fun _ => rfl) h
  case h_21 => exact withWord_encode (pre := [0xED#8, 0x6D#8]) (fun _ => rfl) h
  all_goals exact ok_encode (pre := [0xED#8, _]) rfl h

theorem decodeDD_encode {b : Byte} {bs rest : List Byte} {i : Instr} (h : decodeDD b bs = .ok (i, rest)) :
    0xDD#8 :: b :: bs = encode i ++ rest := by
  unfold decodeDD at h
  split at h <;> rename_i hb
  case h_9 => cases h
  all_goals rw [byte_eq_ofNat hb]
  case h_2 => exact withWord_encode (pre := [0xDD#8, 0x65#8]) (fun _ => rfl) h
  case h_4 => exact withWord_encode (pre := [0xDD#8, 0x6D#8]) (fun _ => rfl) h
  all_goals exact ok_encode (pre := [0xDD#8, _]) rfl h

theorem decodeFD_encode {b : Byte} {bs rest : List Byte} {i : Instr} (h : decodeFD b bs = .ok (i, rest)) :
    0xFD#8 :: b :: bs = encode i ++ rest := by
  unfold decodeFD at h
  split at h <;> rename_i hb
  case h_9 => cases h
  all_goals rw [byte_eq_ofNat hb]
  case h_2 => exact withWord_encode (pre := [0xFD#8, 0x65#8]) (fun _ => rfl) h
  case h_4 => exact withWord_encode (pre := [0xFD#8, 0x6D#8]) (fun _ => rfl) h
  all_goals exact ok_encode (pre := [0xFD#8, _]) rfl h

/-- The first byte of the pages of an index register (R101). -/
def indexByte : Index → Byte
  | .ix => 0xDD
  | .iy => 0xFD

/-! The fourth byte of an indexed CB form is the second byte of the CB page's row for (HL) (R102). -/

theorem encode_rotAt_indexed (o : Rot) (k : Index) (d : Byte) :
    encode (.rotAt o (.indexed k d)) = indexByte k :: 0xCB#8 :: d :: (encode (.rotAt o .hl)).tail := by
  cases o <;> cases k <;> rfl

theorem encode_resAt_indexed (b : Fin 8) (k : Index) (d : Byte) :
    encode (.resAt b (.indexed k d)) = indexByte k :: 0xCB#8 :: d :: (encode (.resAt b .hl)).tail := by
  fin_cases b <;> cases k <;> rfl

theorem encode_setAt_indexed (b : Fin 8) (k : Index) (d : Byte) :
    encode (.setAt b (.indexed k d)) = indexByte k :: 0xCB#8 :: d :: (encode (.setAt b .hl)).tail := by
  fin_cases b <;> cases k <;> rfl

theorem decodeIndexedCB_encode {k : Index} {d op : Byte} {i : Instr} (h : decodeIndexedCB k d op = some i) :
    encode i = [indexByte k, 0xCB#8, d, op] := by
  unfold decodeIndexedCB at h
  split at h <;> rename_i hx hz
  · split at h <;> rename_i hy
    · cases h
      rw [encode_rotAt_indexed, decodeCB_encode op _ (EncodingFields.decodeCB_rotAt hx hy hz)]; rfl
    · cases h
  · cases h
    rw [encode_resAt_indexed, decodeCB_encode op _ (decodeCB_resAt hx hz)]; rfl
  · cases h
    rw [encode_setAt_indexed, decodeCB_encode op _ (decodeCB_setAt hx hz)]; rfl
  · cases h

theorem decodeIndexed_encode {k : Index} {b : Byte} {bs rest : List Byte} {i : Instr}
    (h : decodeIndexed k b bs = .ok (i, rest)) : indexByte k :: b :: bs = encode i ++ rest := by
  unfold decodeIndexed at h
  split at h
  case h_6 =>
    cases k with
    | ix => exact decodeDD_encode h
    | iy => exact decodeFD_encode h
  all_goals rename_i hb; rw [byte_eq_ofNat hb]
  case h_5 =>
    split at h
    · exact done_encode (pre := [indexByte k, 0xCB#8, _, _]) (fun i hi => decodeIndexedCB_encode hi) h
    · cases h
  all_goals exact withByte_encode (pre := [indexByte k, _]) (fun _ => by cases k <;> rfl) h

theorem decodeIo_encode {space : IoSpace} {p : Byte} {bs rest : List Byte} {i : Instr}
    (hp : ∀ b c, copyOfByte b = some c → encode (.copy c (some space)) = [p, 0xED#8, b])
    (h : decodeIo space bs = .ok (i, rest)) : p :: bs = encode i ++ rest := by
  unfold decodeIo at h
  split at h
  · cases h
  · split at h
    · rename_i hb
      subst hb
      split at h
      · cases h
      · refine done_encode (pre := [p, 0xED#8, _]) (fun i hi => ?_) h
        obtain ⟨c, hc, rfl⟩ := Option.map_eq_some_iff.mp hi
        exact hp _ c hc
    · cases h

theorem page_ok {f : Byte → List Byte → Decoded} {bs rest : List Byte} {i : Instr} (h : page f bs = .ok (i, rest)) :
    ∃ b bs', bs = b :: bs' ∧ f b bs' = .ok (i, rest) := by
  unfold page at h
  split at h
  · exact ⟨_, _, rfl, h⟩
  · cases h

theorem encode_of_decodeAny {bs rest : List Byte} {i : Instr} (h : decodeAny bs = .ok (i, rest)) :
    bs = encode i ++ rest := by
  unfold decodeAny at h
  split at h
  · cases h
  rename_i b bs
  split at h <;> rename_i hb
  case h_12 => exact done_encode (pre := [b]) (fun i => decodeOne_encode b i) h
  all_goals rw [byte_eq_ofNat hb]
  case h_1 =>
    obtain ⟨op, bs, rfl, h⟩ := page_ok h
    exact done_encode (pre := [0xCB#8, op]) (fun i => decodeCB_encode op i) h
  case h_2 => obtain ⟨op, bs, rfl, h⟩ := page_ok h; exact decodeED_encode h
  case h_3 => obtain ⟨op, bs, rfl, h⟩ := page_ok h; exact decodeIndexed_encode (k := .ix) h
  case h_4 => obtain ⟨op, bs, rfl, h⟩ := page_ok h; exact decodeIndexed_encode (k := .iy) h
  case h_5 => exact decodeIo_encode (fun b c hc => (copyOfByte_encode b c hc).2.1) h
  case h_6 => exact decodeIo_encode (fun b c hc => (copyOfByte_encode b c hc).2.2) h
  case h_7 =>
    split at h
    · exact ok_encode (pre := [0xC7#8, _, _, _]) (by simp [encode]) h
    · cases h
  all_goals exact withByte_encode (pre := [_]) (fun _ => rfl) h

theorem encode_of_decode {is3000A : Bool} {bs rest : List Byte} {i : Instr}
    (h : decode is3000A bs = .ok (i, rest)) : bs = encode i ++ rest ∧ i.wellFormed is3000A = true := by
  unfold decode at h
  split at h
  · split at h
    · cases h; exact ⟨encode_of_decodeAny ‹_›, ‹_›⟩
    · cases h
  · cases h

/-- Settles O2: page by page, what is accepted is the encoder's row. -/
theorem decodedBytesAreTheEncoding : Obligations.DecodedBytesAreTheEncoding :=
  fun _ _ _ _ => encode_of_decode

/-! ## Lengths (R104) -/

theorem instrLength_encode (i : Instr) : Laws.EncodedLength.Statement i := by
  cases i <;> exact fun _ => rfl

/-- Settles O3: by O2 the list begins with an encoding, whose first bytes give its length. -/
theorem lengthFromFirstBytes : Obligations.LengthFromFirstBytes := by
  intro is3000A bs i rest h
  obtain ⟨rfl, -⟩ := encode_of_decode h
  rw [instrLength_encode i rest]
  exact ⟨by simp, rfl⟩

end Sys2Proof.RoundTrip
end

section
/-! PROOFS. Bit numbers and restart numbers in the opcode bytes (30_encoding.md R96, R100, R105), and ten words of the
tables written out. -/

namespace Sys2Proof.EncodingFields

open Sys2Proof.RoundTrip

/-- The three fields of a byte put together from them. -/
theorem fields_assembled (x : BitVec 2) (b z : BitVec 3) :
    fieldX (x ++ b ++ z) = x.toNat ∧ fieldY (x ++ b ++ z) = b.toFin ∧ fieldZ (x ++ b ++ z) = z.toFin :=
  ⟨fieldX_append_append .., fieldY_append_append .., fieldZ_append ..⟩

section
variable (is3000A : Bool) (rest : List Byte) (b : BitVec 3)

theorem decode_resAt_hl :
    decode is3000A (0xCB#8 :: (0b10#2 ++ b ++ 0b110#3) :: rest) = .ok (.resAt b.toFin .hl, rest) := by
  obtain ⟨hx, hy, hz⟩ := fields_assembled 0b10#2 b 0b110#3
  exact hy ▸ decode_of_decodeCB (decodeCB_resAt hx (by rw [hz]; rfl)) is3000A rest

theorem decode_setAt_hl :
    decode is3000A (0xCB#8 :: (0b11#2 ++ b ++ 0b110#3) :: rest) = .ok (.setAt b.toFin .hl, rest) := by
  obtain ⟨hx, hy, hz⟩ := fields_assembled 0b11#2 b 0b110#3
  exact hy ▸ decode_of_decodeCB (decodeCB_setAt hx (by rw [hz]; rfl)) is3000A rest

theorem decode_resAt_setAt_indexed {first : Byte} {i : Index} (h : (first, i) ∈ [(0xDD#8, .ix), (0xFD#8, .iy)])
    (d : Byte) :
    decode is3000A (first :: 0xCB#8 :: d :: (0b10#2 ++ b ++ 0b110#3) :: rest) =
        .ok (.resAt b.toFin (.indexed i d), rest) ∧
      decode is3000A (first :: 0xCB#8 :: d :: (0b11#2 ++ b ++ 0b110#3) :: rest) =
        .ok (.setAt b.toFin (.indexed i d), rest) := by
  constructor
  · obtain ⟨hx, hy, hz⟩ := fields_assembled 0b10#2 b 0b110#3
    rw [decode_indexedCB h, decodeIndexedCB_resAt hx hz, hy]; rfl
  · obtain ⟨hx, hy, hz⟩ := fields_assembled 0b11#2 b 0b110#3
    rw [decode_indexedCB h, decodeIndexedCB_setAt hx hz, hy]; rfl

theorem decode_bitReg {r : Reg8} {field : BitVec 3} (hr : regOfField field.toFin = some r) :
    decode is3000A (0xCB#8 :: (0b10#2 ++ b ++ field) :: rest) = .ok (.bitReg .res b.toFin r, rest) ∧
      decode is3000A (0xCB#8 :: (0b11#2 ++ b ++ field) :: rest) = .ok (.bitReg .set b.toFin r, rest) := by
  constructor
  · obtain ⟨hx, hy, hz⟩ := fields_assembled 0b10#2 b field
    exact hy ▸ decode_of_decodeCB (decodeCB_resReg hx (by rw [hz, hr])) is3000A rest
  · obtain ⟨hx, hy, hz⟩ := fields_assembled 0b11#2 b field
    exact hy ▸ decode_of_decodeCB (decodeCB_setReg hx (by rw [hz, hr])) is3000A rest

end

theorem decodeOne_rst {v : Restart} {t : BitVec 3}
    (h : (v, t) ∈ [(.v10, 0b010#3), (.v18, 0b011#3), (.v20, 0b100#3), (.v28, 0b101#3), (.v38, 0b111#3)]) :
    decodeOne (0b11#2 ++ t ++ 0b111#3) = some (.rst v) := by
  simp only [List.mem_cons, Prod.mk.injEq, List.not_mem_nil, or_false] at h
  obtain ⟨rfl, rfl⟩ | ⟨rfl, rfl⟩ | ⟨rfl, rfl⟩ | ⟨rfl, rfl⟩ | ⟨rfl, rfl⟩ := h <;> rfl

/-- Settles O7: RES and SET are read by the fields of their last byte; the byte 11ttt111 is RST, LJP, MUL or no row. -/
theorem bitAndRestartFields : Obligations.BitAndRestartFields := by
  intro is3000A rest
  refine ⟨fun b => ⟨decode_resAt_hl .., decode_setAt_hl .., fun d => ?_⟩, fun b r field hr => ?_, fun v t ht => ?_,
    fun n m x => ?_, rfl, ?_⟩
  · obtain ⟨hresX, hsetX⟩ := decode_resAt_setAt_indexed is3000A rest b (first := 0xDD#8) (i := .ix) (by simp) d
    obtain ⟨hresY, hsetY⟩ := decode_resAt_setAt_indexed is3000A rest b (first := 0xFD#8) (i := .iy) (by simp) d
    exact ⟨hresX, hsetX, hresY, hsetY⟩
  · exact decode_bitReg is3000A rest b (regOfField_of_mem hr)
  · exact decode_of_decodeOne (decodeOne_rst ht) is3000A rest
  · exact decode_of_decodeAny rfl rfl is3000A
  · exact decode_of_decodeOne rfl is3000A rest

/-- Settles O9: each word is the encoding of its instruction, read from the encoder's rows. -/
theorem listedWordsDecode : Obligations.ListedWordsDecode := by
  intro rest
  have word (i : Instr) : decode true (encode i ++ rest) = .ok (i, rest) :=
    decode_encode (by simp [Instr.wellFormed]) rest
  exact ⟨word (.ldpAtMnHL 0x8002), word (.ljp 0x08 0xF234), word .ioiLsdr, word (.subAtIXd 0xFE), word (.xorN 0x5A),
    word .nop, word .pushIY, word .res7AtHL, word (.sraAtIYd 0x01), word .setusr⟩

end Sys2Proof.EncodingFields
end

section
/-! PROOFS. Who writes what (10_state.md R51): the statements about every instruction that answers a next state. Each is
a case analysis of `Effect`: the named cases are the writers, the rest leave the register as it was. -/

namespace Sys2Proof.Writers

open Sys2Proof.Machine

variable {i : Instr} {s t : State}

/-! ## What no instruction writes -/

/-- IIR, EIR, the segment registers and the parameters. -/
theorem effect_base (h : Effect i s t) :
    t.iir = s.iir ∧ t.eir = s.eir ∧ t.segsize = s.segsize ∧ t.stackseg = s.stackseg ∧ t.dataseg = s.dataseg ∧
      t.config = s.config := by
  cases h <;> rw [‹t = _›] <;> simp

/-! ## XPC, IP, SU and the hold-off -/

theorem effect_xpc (h : Effect i s t) : t.xpc = s.xpc ∨ (∃ x mn, i = .ljp x mn) ∨ i = .lret := by
  cases h with
  | ljp x mn hi => exact .inr (.inl ⟨x, mn, hi⟩)
  | lret _ _ hi => exact .inr (.inr hi)
  | _ => rw [‹t = _›]; simp

theorem effect_ip (h : Effect i s t) : t.ip = s.ip ∨ i = .popIP ∨ i = .reti := by
  cases h with
  | popIP _ hi => exact .inr (.inl hi)
  | reti _ _ hi => exact .inr (.inr hi)
  | _ => rw [‹t = _›]; simp

theorem effect_su (h : Effect i s t) :
    t.su = s.su ∨ i ∈ [.setusr, .sures, .popSU] ∨
      (Trap i ∧ s.config.is3000A = true ∧ s.config.suOnTrap = .pushSystem) := by
  cases h with
  | mode _ hi => exact .inr (.inl (by grind))
  | popSU _ hi => exact .inr (.inl (by simp [hi]))
  | trap _ hi =>
    by_cases hc : s.config.is3000A = true ∧ s.config.suOnTrap = .pushSystem
    · exact .inr (.inr ⟨hi, hc⟩)
    · rw [‹t = _›]; simp [hc]
  | _ => rw [‹t = _›]; simp

theorem effect_inhibit (h : Effect i s t) : t.inhibit = s.inhibit ∨ Privileged i := by
  cases h with
  | reti _ _ hi | popIP _ hi | popSU _ hi | pushSU hi => exact .inr (by simp [Privileged, hi])
  | mode _ hi => exact .inr (by grind [Privileged])
  | _ => rw [‹t = _›]; simp

/-- Settles O21: register by register. -/
theorem writersOfControlRegisters : Obligations.WritersOfControlRegisters := by
  intro i s t h
  have e := exec_effect h
  exact ⟨effect_xpc e, effect_ip e, effect_su e, effect_inhibit e⟩

/-! ## A, B, C, D, E, H, L -/

theorem effect_a (h : Effect i s t) :
    t.a = s.a ∨ (∃ op, AluForm op i) ∨ i ∈ [.neg, .rla, .rlca, .rra, .rrca, .popAF] ∨ RegisterForm .a i := by
  cases h with
  | accumulator _ _ hi =>
    obtain hi | hi := hi
    · exact .inr (.inl hi)
    · exact .inr (.inr (.inl (by simp only [List.mem_cons] at hi ⊢; tauto)))
  | popAF _ hi => exact .inr (.inr (.inl (by simp [hi])))
  | register r _ _ hi =>
    by_cases hr : r = .a
    · exact .inr (.inr (.inr (hr ▸ hi)))
    · rw [‹t = _›]; simp [hr]
  | _ => rw [‹t = _›]; simp

theorem repeating_copy {op : Copy} {space : Option IoSpace} (hi : i = .copy op space) : Repeating i :=
  .inr (.inr ⟨op, space, hi⟩)

theorem repeating_mac (hi : i = .uma ∨ i = .ums) : Repeating i := hi.imp_right .inl

/-- A writer of a pair is listed for both halves. -/
theorem writes_both {kept kept' word pair reg reg' : Prop} (h : word ∨ pair) :
    (kept ∨ word ∨ pair ∨ reg) ∧ (kept' ∨ word ∨ pair ∨ reg') :=
  ⟨.inr (or_assoc.mp (.inl h)), .inr (or_assoc.mp (.inl h))⟩

theorem effect_b_c (h : Effect i s t) :
    (t.b = s.b ∨ i ∈ [.popBC, .mul] ∨ Repeating i ∨ RegisterForm .b i) ∧
      (t.c = s.c ∨ i ∈ [.popBC, .mul] ∨ Repeating i ∨ RegisterForm .c i) := by
  cases h with
  | popBC _ hi | mul _ _ hi => exact writes_both (.inl (by simp [hi]))
  | copy _ _ _ _ _ _ hi => exact writes_both (.inr (repeating_copy hi))
  | mac _ _ _ hi => exact writes_both (.inr (repeating_mac hi))
  | register r _ _ hi =>
    rw [‹t = _›]
    constructor
    · by_cases hr : r = .b
      · exact .inr (.inr (.inr (hr ▸ hi)))
      · simp [hr]
    · by_cases hr : r = .c
      · exact .inr (.inr (.inr (hr ▸ hi)))
      · simp [hr]
  | _ => rw [‹t = _›]; simp

theorem effect_d_e (h : Effect i s t) :
    (t.d = s.d ∨ i ∈ [.popDE, .rlDE, .rrDE] ∨ (∃ op space, i = .copy op space) ∨ RegisterForm .d i) ∧
      (t.e = s.e ∨ i ∈ [.popDE, .rlDE, .rrDE] ∨ (∃ op space, i = .copy op space) ∨ RegisterForm .e i) := by
  cases h with
  | popDE _ hi => exact writes_both (.inl (by simp [hi]))
  | wordDE _ _ hi => exact writes_both (.inl (.tail _ hi))
  | copy op space _ _ _ _ hi => exact writes_both (.inr ⟨op, space, hi⟩)
  | register r _ _ hi =>
    rw [‹t = _›]
    constructor
    · by_cases hr : r = .d
      · exact .inr (.inr (.inr (hr ▸ hi)))
      · simp [hr]
    · by_cases hr : r = .e
      · exact .inr (.inr (.inr (hr ▸ hi)))
      · simp [hr]
  | _ => rw [‹t = _›]; simp

theorem effect_h_l (h : Effect i s t) :
    ((t.h = s.h ∨ RegisterForm .h i) ∧ (t.l = s.l ∨ RegisterForm .l i)) ∨
      i ∈ [.popHL, .ldpHLAtHL, .ldpHLAtIX, .ldpHLAtIY, .mul, .orHLDE, .rrHL, .uma, .ums] ∨
      (∃ mn, i = .ldpHLAtMn mn) ∨ (∃ ss, i = .sbcHL ss) ∨
      ∃ op space, op ∈ [.lsdr, .lsir] ∧ i = .copy op space := by
  cases h with
  | popHL _ hi | mul _ _ hi => exact .inr (.inl (by simp [hi]))
  | mac _ _ _ hi => exact .inr (.inl (by obtain rfl | rfl := hi <;> simp))
  | ldpLoadHL _ hi =>
    obtain hi | hi := hi
    · exact .inr (.inl (by grind))
    · exact .inr (.inr (.inl hi))
  | wordHL _ _ hi =>
    obtain hi | hi := hi
    · exact .inr (.inl (by grind))
    · exact .inr (.inr (.inr (.inl hi)))
  | copy op space _ _ _ _ hi =>
    by_cases hop : op ∈ [Copy.lsdr, .lsir]
    · exact .inr (.inr (.inr (.inr ⟨op, space, hop, hi⟩)))
    · -- LSDDR and LSIDR leave HL where it is.
      have stay : copyStepHL op = 0 := by cases op <;> simp_all [copyStepHL]
      rw [‹t = _›, stay]; simp [State.hl]
  | register r _ _ hi =>
    rw [‹t = _›]
    refine .inl ⟨?_, ?_⟩
    · by_cases hr : r = .h
      · exact .inr (hr ▸ hi)
      · simp [hr]
    · by_cases hr : r = .l
      · exact .inr (hr ▸ hi)
      · simp [hr]
  | _ => rw [‹t = _›]; simp

/-- Settles O22: register by register, the two halves of a pair together. -/
theorem writersOfGeneralRegisters : Obligations.WritersOfGeneralRegisters := by
  intro i s t h
  have e := exec_effect h
  obtain ⟨hb, hc⟩ := effect_b_c e
  obtain ⟨hd, he⟩ := effect_d_e e
  exact ⟨effect_a e, hb, hc, hd, he, effect_h_l e⟩

/-! ## DE', IX, IY, SP -/

theorem effect_deAlt (h : Effect i s t) : t.deAlt = s.deAlt ∨ i = .uma ∨ i = .ums := by
  cases h with
  | mac _ _ _ hi => exact .inr hi
  | _ => rw [‹t = _›]; simp

theorem effect_ix (h : Effect i s t) :
    t.ix = s.ix ∨ i ∈ [.popIX, .orIXDE, .rrIX, .uma, .ums] ∨ ∃ mn, i = .ldpIXAtMn mn := by
  cases h with
  | mac _ _ _ hi => exact .inr (.inl (by obtain rfl | rfl := hi <;> simp))
  | ldpLoadIndex k _ hi | popIndex k _ hi | wordIndex k _ _ hi =>
    cases k
    · grind
    · rw [‹t = _›]; simp
  | _ => rw [‹t = _›]; simp

theorem effect_iy (h : Effect i s t) :
    t.iy = s.iy ∨ i ∈ [.popIY, .orIYDE, .rrIY, .uma, .ums] ∨ ∃ mn, i = .ldpIYAtMn mn := by
  cases h with
  | mac _ _ _ hi => exact .inr (.inl (by obtain rfl | rfl := hi <;> simp))
  | ldpLoadIndex k _ hi | popIndex k _ hi | wordIndex k _ _ hi =>
    cases k
    · rw [‹t = _›]; simp
    · grind
  | _ => rw [‹t = _›]; simp

theorem effect_sp (h : Effect i s t) :
    t.sp = s.sp ∨ (∃ zz, i = .popPair zz ∨ i = .pushPair zz) ∨
      i ∈ [.popIP, .popSU, .popIX, .popIY, .pushIP, .pushSU, .pushIX, .pushIY, .ret, .reti, .lret] ∨
      (∃ f, i = .retIf f ∧ s.holds f = true) ∨ Trap i := by
  cases h with
  | ret _ hi =>
    obtain hi | hi := hi
    · exact .inr (.inr (.inl (by simp [hi])))
    · exact .inr (.inr (.inr (.inl hi)))
  | lret _ _ hi | reti _ _ hi | popIP _ hi | popSU _ hi | pushIP hi | pushSU hi =>
    exact .inr (.inr (.inl (by simp [hi])))
  | trap _ hi => exact .inr (.inr (.inr (.inr hi)))
  | popAF _ hi => exact .inr (.inl ⟨.af, .inl hi⟩)
  | popBC _ hi => exact .inr (.inl ⟨.bc, .inl hi⟩)
  | popDE _ hi => exact .inr (.inl ⟨.de, .inl hi⟩)
  | popHL _ hi => exact .inr (.inl ⟨.hl, .inl hi⟩)
  | popIndex k _ hi => exact .inr (.inr (.inl (by cases k <;> simp [hi])))
  | pushWord _ hi =>
    obtain hi | ⟨zz, hi, -⟩ := hi
    · exact .inr (.inr (.inl (by grind)))
    · exact .inr (.inl ⟨zz, .inr hi⟩)
  | pushAF _ hi => exact .inr (.inl ⟨.af, .inr hi⟩)
  | _ => rw [‹t = _›]; simp

/-- Settles O23: register by register. -/
theorem writersOfPointers : Obligations.WritersOfPointers := by
  intro i s t h
  have e := exec_effect h
  exact ⟨effect_deAlt e, effect_ix e, effect_iy e, effect_sp e⟩

/-! ## Memory -/

theorem effect_mem (h : Effect i s t) : t.mem = s.mem ∨ Storing i := by
  cases h with
  | ldpStore _ _ hi =>
    obtain hi | ⟨mn, hi⟩ := hi
    · exact .inr (.inl (by grind))
    · exact .inr (.inr (.inl ⟨mn, hi⟩))
  | pushIP hi | pushSU hi => exact .inr (.inl (by simp [hi]))
  | pushWord _ hi =>
    obtain hi | ⟨zz, hi, -⟩ := hi
    · exact .inr (.inl (by grind))
    · exact .inr (.inr (.inr (.inl ⟨zz, hi⟩)))
  | pushAF _ hi => exact .inr (.inr (.inr (.inl ⟨.af, hi⟩)))
  | trap _ hi => exact .inr (.inr (.inr (.inr (.inl hi))))
  | copy _ _ _ _ _ _ hi => exact .inr (.inr (.inr (.inr (.inr (.inl (repeating_copy hi))))))
  | mac _ _ _ hi => exact .inr (.inr (.inr (.inr (.inr (.inl (repeating_mac hi))))))
  | memory m _ _ hi =>
    obtain ⟨op, b, hi⟩ | ⟨op, hi⟩ := hi
    · exact .inr (.inr (.inr (.inr (.inr (.inr (.inl ⟨op, b, m, hi⟩))))))
    · exact .inr (.inr (.inr (.inr (.inr (.inr (.inr ⟨op, m, hi⟩))))))
  | _ => rw [‹t = _›]; simp

/-- Settles O24: any other instruction leaves the memory field itself as it was. -/
theorem onlyStoringInstructionsChangeMemory : Obligations.OnlyStoringInstructionsChangeMemory := by
  intro i s t h hi q
  rw [(effect_mem (exec_effect h)).resolve_right hi]

/-- Every store of every instruction is a `Memory.write`, so the canonical form is kept. -/
theorem effect_mem_wf (h : Effect i s t) (hm : s.mem.wf = true) : t.mem.wf = true := by
  cases h <;> rw [‹t = _›] <;> simp [hm, Memory.write_wf]

end Sys2Proof.Writers
end

section
/-! PROOFS. The step: which instruction it runs, what it refuses, interrupts, and what every step keeps. -/

namespace Sys2Proof.Steps

open Sys2Proof.Machine Sys2Proof.RoundTrip Sys2Proof.Writers

variable {s t : State} {i : Instr}

/-! ## What a step does, said once -/

/-- A step with no accepted interrupt runs what the bytes at pc decode to. -/
theorem step_of_decode {rest : List Byte} (hirq : s.acceptedIrq = none)
    (hd : decode s.config.is3000A s.fetch = .ok (i, rest)) : step s = exec i s.beginInstr := by
  simp [step, hirq, State.fetchDecode, hd]

/-- A step with no accepted interrupt refuses what is no row. -/
theorem step_of_notInSpec (hirq : s.acceptedIrq = none)
    (hd : decode s.config.is3000A s.fetch = .error .notInSpec) : step s = .refused .notInSpec := by
  simp [step, hirq, State.fetchDecode, hd]

theorem step_of_accepted {e : Irq} (hirq : s.acceptedIrq = some e) : step s = .next (s.takeInterrupt e) := by
  simp [step, hirq]

/-- A step that answers a next state took an interrupt or ran an instruction of the part. -/
theorem step_next (h : step s = .next t) :
    (∃ e, t = s.takeInterrupt e) ∨
      ∃ i, i.wellFormed s.config.is3000A = true ∧ exec i s.beginInstr = .next t := by
  unfold step at h
  split at h
  · injection h with h
    exact .inl ⟨_, h.symm⟩
  · unfold State.fetchDecode at h
    split at h
    · exact .inr ⟨_, (encode_of_decode ‹_›).2, h⟩
    all_goals cases h

theorem takeInterrupt_eq (s : State) (e : Irq) :
    s.takeInterrupt e = { s with
      mem := (s.mem.write (s.translate (s.sp - 1)) (hiByte s.pc)).write (s.translate (s.sp - 2)) (loByte s.pc),
      sp := s.sp - 2, pc := s.irqEntry e.target, ip := s.ip.extractLsb' 0 6 ++ e.priority, irqs := s.irqs.tail,
      su := if s.config.is3000A ∧ s.config.suOnTrap = .pushSystem then s.su.extractLsb' 0 6 ++ 0#2 else s.su } := by
  rw [State.takeInterrupt, State.enterTrap_eq]

/-- Settles O10: the state the instruction runs on is `State.beginInstr`. -/
theorem stepRunsDecodedInstruction : Obligations.StepRunsDecodedInstruction :=
  fun _ _ _ => step_of_decode

/-- Settles O11: what is fetched begins with the instruction's bytes, and decoding inverts encoding. -/
theorem stepRunsEncodedInstruction : Obligations.StepRunsEncodedInstruction := by
  intro s i hirq hwf hbytes
  obtain ⟨rest, hfetch⟩ := s.fetchFrom_prefix (encode i) maxLength (encode_length_le i) s.pc hbytes
  exact step_of_decode hirq (by rw [State.fetch, hfetch]; exact decode_encode hwf rest)

/-! ## Bytes that are no instruction -/

theorem done_ne_truncated (o : Option Instr) (bs : List Byte) : done o bs ≠ .error .truncated := by
  cases o <;> simp [done]

theorem decodeED_ne_truncated (b b2 b3 : Byte) : decodeED b [b2, b3] ≠ .error .truncated := by
  unfold decodeED
  split <;> simp [withWord, done_ne_truncated]

theorem decodeIndexed_ne_truncated (k : Index) (b b2 b3 : Byte) : decodeIndexed k b [b2, b3] ≠ .error .truncated := by
  unfold decodeIndexed decodeDD decodeFD
  split <;> (repeat' split) <;> simp [withByte, withWord, done_ne_truncated]

theorem decodeIo_ne_truncated (space : IoSpace) (b1 b2 b3 : Byte) :
    decodeIo space [b1, b2, b3] ≠ .error .truncated := by
  simp only [decodeIo]
  split
  · exact done_ne_truncated _ _
  · simp

theorem decodeAny_ne_truncated (b0 b1 b2 b3 : Byte) : decodeAny [b0, b1, b2, b3] ≠ .error .truncated := by
  unfold decodeAny
  split
  case h_1 heq => cases heq
  case h_2 b rest heq =>
    cases heq
    split
    case h_1 | h_12 => exact done_ne_truncated _ _
    case h_2 => exact decodeED_ne_truncated b1 b2 b3
    case h_3 | h_4 => exact decodeIndexed_ne_truncated _ b1 b2 b3
    case h_5 | h_6 => exact decodeIo_ne_truncated _ b1 b2 b3
    all_goals simp [withByte]

/-- No instruction is longer than four bytes, so four bytes never end inside one. -/
theorem decode_ne_truncated (is3000A : Bool) (b0 b1 b2 b3 : Byte) :
    decode is3000A [b0, b1, b2, b3] ≠ .error .truncated := by
  unfold decode
  split
  · split <;> simp
  · rename_i hd
    rintro ⟨⟩
    exact decodeAny_ne_truncated b0 b1 b2 b3 hd

theorem fetch_of_readByte {b0 b1 b2 b3 : Byte} (h0 : s.readByte s.pc = some b0) (h1 : s.readByte (s.pc + 1) = some b1)
    (h2 : s.readByte (s.pc + 2) = some b2) (h3 : s.readByte (s.pc + 3) = some b3) : s.fetch = [b0, b1, b2, b3] := by
  have h2' : s.readByte (s.pc + 1 + 1) = some b2 := by rw [BitVec.add_assoc]; exact h2
  have h3' : s.readByte (s.pc + 1 + 1 + 1) = some b3 := by rw [BitVec.add_assoc, BitVec.add_assoc]; exact h3
  simp only [State.fetch, maxLength, State.fetchFrom, h0, h1, h2', h3']

/-- Settles O12: what the decoder accepts is an encoding, and it never finds four bytes cut short. -/
theorem stepRefusesUnlistedBytes : Obligations.StepRefusesUnlistedBytes := by
  intro s b0 b1 b2 b3 hirq h0 h1 h2 h3 hnone
  have hf := fetch_of_readByte h0 h1 h2 h3
  refine step_of_notInSpec hirq ?_
  rw [hf]
  match hd : decode s.config.is3000A [b0, b1, b2, b3] with
  | .ok (i, rest) =>
    obtain ⟨heq, hwf⟩ := encode_of_decode hd
    exact absurd heq (hnone i rest hwf)
  | .error .notInSpec => rfl
  | .error .truncated => exact absurd hd (decode_ne_truncated _ _ _ _ _)

/-! ## Interrupts -/

/-- Settles O13: the offer is accepted, and the three targets have the three entries. -/
theorem acceptedInterruptEntersHandler : Obligations.AcceptedInterruptEntersHandler := by
  intro s priority target entry later hirqs hinhibit hprio hentry
  have haccept : s.acceptedIrq = some ⟨priority, target⟩ := by
    simp [State.acceptedIrq, hirqs, hinhibit, hprio]
  have hentry : s.irqEntry target = entry := by
    obtain ⟨offset, rfl, rfl⟩ | ⟨offset, rfl, rfl⟩ | rfl := hentry <;> rfl
  rw [step_of_accepted haccept, takeInterrupt_eq, hirqs, hentry]
  exact ⟨_, rfl, Memory.write_storedTwo _ _ _ _ _⟩

/-- Settles O15: both boundaries accept nothing, and the one offer past is the other. -/
theorem unacceptedOfferIsIgnored : Obligations.UnacceptedOfferIsIgnored := by
  intro s e later hirqs hno
  have hnone : s.acceptedIrq = none := by
    simp only [State.acceptedIrq, hirqs, ite_eq_right_iff, reduceCtorEq, imp_false, not_and]
    intro hi
    simpa [hi] using hno
  have hnone' : { s with irqs := none :: later }.acceptedIrq = none := rfl
  have hbegin : { s with irqs := none :: later }.beginInstr = s.beginInstr := by simp [State.beginInstr, hirqs]
  simp only [step, hnone, hnone', hbegin]

/-! ## What every step keeps -/

theorem takeInterrupt_inv (e : Irq) (h : s.Inv) : (s.takeInterrupt e).Inv := by
  obtain ⟨hm, hsu⟩ := h
  rw [takeInterrupt_eq]
  refine ⟨Memory.write_wf _ _ _ (Memory.write_wf _ _ _ hm), fun hbase => ?_⟩
  simp_all

/-- The writers of SU are rows of level R3000A, or traps, which write it on a 3000A alone. -/
theorem exec_inv (hinv : s.Inv) (hwf : i.wellFormed s.config.is3000A = true) (h : exec i s = .next t) : t.Inv := by
  obtain ⟨hm, hsu⟩ := hinv
  have e := exec_effect h
  obtain ⟨-, -, -, -, -, hconfig⟩ := effect_base e
  refine ⟨effect_mem_wf e hm, fun hbase => ?_⟩
  rw [hconfig] at hbase
  obtain hkept | hi | ⟨-, h3000A, -⟩ := effect_su e
  · rw [hkept, hsu hbase]
  · simp only [List.mem_cons, List.not_mem_nil, or_false] at hi
    obtain rfl | rfl | rfl := hi <;> simp [Instr.wellFormed, Instr.needs3000A, hbase] at hwf
  · simp [hbase] at h3000A

theorem beginInstr_inv (h : s.Inv) : s.beginInstr.Inv := h

/-- Settles O16: an interrupt entry keeps the invariant, and so does every instruction of the part. -/
theorem stepKeepsInvariant : Obligations.StepKeepsInvariant := by
  intro s t hinv h
  obtain ⟨e, rfl⟩ | ⟨i, hwf, h⟩ := step_next h
  · exact takeInterrupt_inv e hinv
  · exact exec_inv (beginInstr_inv hinv) hwf h

/-- Settles O17: nothing is written yet, and SU is zero on every part. -/
theorem resetMeetsInvariant : Obligations.ResetMeetsInvariant :=
  ⟨Memory.reset_wf, fun _ => rfl⟩

/-- Settles O18: every segment register is zero, so the segment of an address adds nothing to it. -/
theorem resetHoldsFamilyDefaults : Obligations.ResetHoldsFamilyDefaults := by
  refine ⟨rfl, rfl, rfl, rfl, rfl, rfl, rfl, fun a => ?_⟩
  have hsegment : State.reset.segment a = 0 := by
    simp only [State.segment]
    split_ifs <;> rfl
  have htranslate : State.reset.translate a = a.setWidth 20 + ((State.reset.segment a).setWidth 20 <<< 12) := rfl
  rw [htranslate, hsegment]
  simp

/-- Settles O19: neither an interrupt entry nor an instruction writes one. -/
theorem stepKeepsBaseRegistersAndParameters : Obligations.StepKeepsBaseRegistersAndParameters := by
  intro s t h
  obtain ⟨e, rfl⟩ | ⟨i, -, h⟩ := step_next h
  · rw [takeInterrupt_eq]; simp
  · exact effect_base (s := s.beginInstr) (exec_effect h)

/-! ## Translation (R66) -/

theorem toNat_top (a : Word) : (a.extractLsb' 12 4).toNat = a.toNat / 4096 := by
  have := a.isLt
  simp only [BitVec.extractLsb'_toNat, Nat.shiftRight_eq_div_pow]; omega

theorem toNat_high (b : Byte) : (b.extractLsb' 4 4).toNat = b.toNat / 16 := by
  have := b.isLt
  simp only [BitVec.extractLsb'_toNat, Nat.shiftRight_eq_div_pow]; omega

theorem toNat_low (b : Byte) : (b.extractLsb' 0 4).toNat = b.toNat % 16 := by
  simp [BitVec.extractLsb'_toNat]

/-- The segment register of an address, as a number. -/
theorem segment_toNat (s : State) (a : Word) :
    (s.segment a).toNat =
      if 0xE ≤ a.toNat / 4096 then s.xpc.toNat
      else if s.segsize.toNat / 16 ≤ a.toNat / 4096 then s.stackseg.toNat
      else if s.segsize.toNat % 16 ≤ a.toNat / 4096 then s.dataseg.toNat
      else 0 := by
  simp only [State.segment, BitVec.le_def, toNat_top, toNat_high, toNat_low, BitVec.toNat_ofNat, apply_ite BitVec.toNat]
  rfl

/-- Settles O20: the shift by 12 is the multiplication by 4096, and the sum is taken in 20 bits. -/
theorem translationFollowsSegments : Obligations.TranslationFollowsSegments := by
  intro s a hsegments
  have htranslate : s.translate a = a.setWidth 20 + ((s.segment a).setWidth 20 <<< 12) := by
    simp [State.translate, hsegments]
  have := a.isLt
  have := (s.segment a).isLt
  rw [← segment_toNat, htranslate, BitVec.toNat_add, BitVec.toNat_shiftLeft, BitVec.toNat_setWidth,
    BitVec.toNat_setWidth, Nat.shiftLeft_eq]
  omega

end Sys2Proof.Steps
end

section
/-! PROOFS. The privileged instructions, where exec stops, and where pc goes (60_exceptions.md R330, R331; 10_state.md
R25, R37). -/

namespace Sys2Proof.Stops

open Sys2Proof.Machine Sys2Proof.Writers Sys2Proof.Steps

variable {s t : State} {i : Instr}

/-! ## The six privileged instructions -/

section
variable (s : State)

theorem exec_popIP : exec .popIP s =
    s.privileged fun s => s.popByte fun v s => .next (({ s with ip := v }.putFlags noFlags).advance 2) := rfl
theorem exec_reti : exec .reti s =
    s.privileged fun s => s.returnFromInterrupt fun s => .next (s.putFlags noFlags) := rfl
theorem exec_popSU : exec .popSU s =
    s.privileged fun s => s.popByte fun v s => .next (({ s with su := v }.putFlags noFlags).advance 2) := rfl
theorem exec_pushSU : exec .pushSU s = s.privileged fun s => pushByteFrom s.su s := rfl
theorem exec_setusr : exec .setusr s = s.privileged fun s =>
    .next (({ s with su := s.su.extractLsb' 0 6 ++ 1#2 }.putFlags noFlags).advance 2) := rfl
theorem exec_sures : exec .sures s = s.privileged fun s =>
    .next (({ s with su := s.su.extractLsb' 0 2 ++ s.su.extractLsb' 2 6 }.putFlags noFlags).advance 2) := rfl

end

theorem inhibit_popByte {k : Byte → State → Out} (hk : ∀ v s t, k v s = .next t → t.inhibit = s.inhibit)
    (h : s.popByte k = .next t) : t.inhibit = s.inhibit := by
  obtain ⟨v, -, h⟩ := State.popByte_next h
  have hkept := hk _ _ _ h
  exact hkept

/-- Each is the privilege check and a continuation that leaves the hold-off as the check set it. -/
theorem exec_privileged (hi : Privileged i) :
    ∃ k : State → Out, (∀ s, exec i s = s.privileged k) ∧ ∀ s t, k s = .next t → t.inhibit = s.inhibit := by
  simp only [Privileged, List.mem_cons, List.not_mem_nil, or_false] at hi
  obtain rfl | rfl | rfl | rfl | rfl | rfl := hi
  · exact ⟨_, fun s => exec_popIP s, fun _ _ h => inhibit_popByte (by rintro _ _ _ ⟨⟩; simp) h⟩
  · refine ⟨_, fun s => exec_reti s, fun _ _ h => ?_⟩
    obtain ⟨_, _, _, -, -, -, h⟩ := State.returnFromInterrupt_next h
    cases h
    simp
  · exact ⟨_, fun s => exec_popSU s, fun _ _ h => inhibit_popByte (by rintro _ _ _ ⟨⟩; simp) h⟩
  · exact ⟨_, fun s => exec_pushSU s, by rintro _ _ ⟨⟩; simp⟩
  · exact ⟨_, fun s => exec_setusr s, by rintro _ _ ⟨⟩; simp⟩
  · exact ⟨_, fun s => exec_sures s, by rintro _ _ ⟨⟩; simp⟩

theorem exec_privileged_refused (hi : Privileged i) (hu : s.userMode = true) :
    exec i s = .refused .privilegedInUserMode := by
  obtain ⟨k, hk, -⟩ := exec_privileged hi
  simp [hk, State.privileged, hu]

theorem exec_privileged_next (hi : Privileged i) (h : exec i s = .next t) :
    s.userMode = false ∧ t.inhibit = true := by
  obtain ⟨k, hk, hinhibit⟩ := exec_privileged hi
  rw [hk] at h
  obtain ⟨hu, h⟩ := State.privileged_next h
  exact ⟨hu, hinhibit _ _ h⟩

/-- Settles O14: the step clears the hold-off before the instruction, and the privileged ones alone set it. -/
theorem privilegedHoldOffInterrupts : Obligations.PrivilegedHoldOffInterrupts := by
  intro s t i rest hirq hd h
  rw [step_of_decode hirq hd] at h
  refine ⟨fun hset => ?_, fun hi => (exec_privileged_next hi h).2⟩
  refine (effect_inhibit (exec_effect h)).resolve_left fun hkept => ?_
  rw [hkept] at hset
  cases hset

/-! ## The software traps -/

theorem exec_trap (hi : Trap i) : ∃ offset, ∀ s,
    exec i s = .next ((s.enterTrap (s.pc + encodedLen i) (word s.iir offset)).putFlags noFlags) := by
  obtain rfl | ⟨v, rfl⟩ := hi
  · exact ⟨0x60, fun _ => rfl⟩
  · have hl : encodedLen (Instr.rst v) = 1 := by cases v <;> rfl
    exact ⟨restartOffset v, fun s => by rw [exec_rst, hl]; rfl⟩

/-- Settles O25: in user mode the privileged instructions answer no next state, and the others write neither IP nor the
hold-off, and SU by a trap alone. -/
theorem userModeConfinesControlRegisters : Obligations.UserModeConfinesControlRegisters := by
  intro i s t h3000A hsu h
  have hu : s.userMode = true := by simp [State.userMode, h3000A, hsu]
  have hi : ¬ Privileged i := fun hi => by simp [(exec_privileged_next hi h).1] at hu
  have e := exec_effect h
  refine ⟨(effect_ip e).resolve_right fun hip => hi ?_, (effect_inhibit e).resolve_right hi, ?_, fun hno => ?_⟩
  · obtain rfl | rfl := hip <;> simp [Privileged]
  · rintro ⟨htrap, hpush⟩
    obtain ⟨offset, hexec⟩ := exec_trap htrap
    rw [hexec] at h
    cases h
    simp [h3000A, hpush]
  · refine (effect_su e).resolve_right ?_
    rintro (hmode | ⟨htrap, -, hpush⟩)
    · simp only [List.mem_cons, List.not_mem_nil, or_false] at hmode
      exact hi (by obtain rfl | rfl | rfl := hmode <;> simp [Privileged])
    · exact hno ⟨htrap, hpush⟩

/-! ## Where exec stops -/

/-- The outcome is a next state, or the fault at a byte that has no value in `s`. -/
def Runs (s : State) (o : Out) : Prop :=
  (∃ t, o = .next t) ∨ ∃ p, o = .fault (.unwrittenMemory p) ∧ s.mem.read p = none

theorem runs_next : Runs s (.next t) := .inl ⟨t, rfl⟩

theorem not_runs_refused (r : Refusal) : ¬ Runs s (.refused r) := by
  rintro (⟨t, h⟩ | ⟨p, h, -⟩) <;> cases h

theorem runs_loadPhys {p : Addr20} {k : Byte → Out} (hk : ∀ v, Runs s (k v)) : Runs s (s.loadPhys p k) := by
  unfold State.loadPhys
  split
  · exact hk _
  · exact .inr ⟨p, rfl, ‹_›⟩

theorem runs_load {a : Word} {k : Byte → Out} (hk : ∀ v, Runs s (k v)) : Runs s (s.load a k) := runs_loadPhys hk

theorem runs_loadWord {a : Word} {k : Word → Out} (hk : ∀ v, Runs s (k v)) : Runs s (s.loadWord a k) :=
  runs_load fun _ => runs_load fun _ => hk _

theorem runs_loadLdp {a : Word} {k : Word → Out} (hk : ∀ v, Runs s (k v)) : Runs s (s.loadLdp a k) :=
  runs_loadPhys fun _ => runs_loadPhys fun _ => hk _

theorem runs_returnNear : Runs s (returnNear s) := by
  unfold returnNear State.popWord
  exact runs_loadWord fun _ => runs_next

theorem runs_returnIf (f : Cond) : Runs s (returnIf f s) := by
  unfold returnIf
  split
  · exact runs_returnNear
  · exact runs_next

theorem runs_execLret : Runs s (execLret s) := by
  unfold execLret
  exact runs_loadWord fun _ => runs_load fun _ => runs_next

theorem runs_popInto (len : Word) (put : State → Word → State) : Runs s (popInto len put s) := by
  unfold popInto State.popWord
  exact runs_loadWord fun _ => runs_next

theorem runs_execPopAF : Runs s (execPopAF s) := by
  unfold execPopAF State.popWord
  exact runs_loadWord fun _ => runs_next

theorem runs_ldpLoad (a len : Word) (put : State → Word → State) : Runs s (ldpLoad a len put s) := by
  unfold ldpLoad
  exact runs_loadLdp fun _ => runs_next

theorem runs_popByte {k : Byte → State → Out} (hk : ∀ v, Runs s (k v { s with sp := s.sp + 1 })) :
    Runs s (s.popByte k) := runs_load hk

theorem runs_returnFromInterrupt {k : State → Out}
    (hk : ∀ ip pc, Runs s (k { s with ip := ip, pc := pc, sp := s.sp + 1 + 2 })) :
    Runs s (s.returnFromInterrupt k) :=
  runs_popByte fun ip => runs_loadWord (s := { s with sp := s.sp + 1 }) fun pc => hk ip pc

/-- Out of user mode the check sets the hold-off and goes on. -/
theorem runs_privileged {k : State → Out} (hu : s.userMode = false)
    (hk : Runs { s with inhibit := true } (k { s with inhibit := true })) : Runs s (s.privileged k) := by
  rw [State.privileged_of k hu]
  exact hk

/-- LJP is performed where its rule is kept (R140, U1). -/
theorem exec_ljp_of {x : Byte} {mn : Word} (h : 0xE000#16 ≤ mn ∨ s.config.ljpAnyTarget = true) :
    exec (.ljp x mn) s = .next ({ s with xpc := x, pc := mn }.putFlags noFlags) := by
  refine if_neg ?_
  obtain h | h := h
  · exact fun hlt => absurd hlt.1 (BitVec.not_lt.mpr h)
  · simp [h]

theorem runs_exec (hi : ¬ (Privileged i ∧ s.userMode = true)) (hljp : KeepsLjpRule i s) : Runs s (exec i s) := by
  have hu (hp : Privileged i) : s.userMode = false := by simpa [hp] using hi
  cases i with
  | ljp x mn =>
    rw [exec_ljp_of (hljp x mn rfl)]
    exact runs_next
  | popIP => exact exec_popIP s ▸ runs_privileged (hu (by simp [Privileged])) (runs_popByte fun _ => runs_next)
  | reti =>
    exact exec_reti s ▸ runs_privileged (hu (by simp [Privileged])) (runs_returnFromInterrupt fun _ _ => runs_next)
  | popSU => exact exec_popSU s ▸ runs_privileged (hu (by simp [Privileged])) (runs_popByte fun _ => runs_next)
  | pushSU => exact exec_pushSU s ▸ runs_privileged (hu (by simp [Privileged])) runs_next
  | setusr => exact exec_setusr s ▸ runs_privileged (hu (by simp [Privileged])) runs_next
  | sures => exact exec_sures s ▸ runs_privileged (hu (by simp [Privileged])) runs_next
  | retNZ => exact runs_returnIf .nz
  | retZ => exact runs_returnIf .z
  | retNC => exact runs_returnIf .nc
  | retC => exact runs_returnIf .c
  | retLZ => exact runs_returnIf .lz
  | retLO => exact runs_returnIf .lo
  | retP => exact runs_returnIf .p
  | retM => exact runs_returnIf .m
  | ret => exact runs_returnNear
  | lret => exact runs_execLret
  | popAF => exact runs_execPopAF
  | popBC => exact runs_popInto 1 State.setBC
  | popDE => exact runs_popInto 1 State.setDE
  | popHL => exact runs_popInto 1 State.setHL
  | popIX => exact runs_popInto 2 fun s v => s.setIndex .ix v
  | popIY => exact runs_popInto 2 fun s v => s.setIndex .iy v
  | ldpHLAtHL => exact runs_ldpLoad s.hl 2 State.setHL
  | ldpHLAtIX => exact runs_ldpLoad s.ix 2 State.setHL
  | ldpHLAtIY => exact runs_ldpLoad s.iy 2 State.setHL
  | ldpHLAtMn mn => exact runs_ldpLoad mn 4 State.setHL
  | ldpIXAtMn mn => exact runs_ldpLoad mn 4 fun s v => s.setIndex .ix v
  | ldpIYAtMn mn => exact runs_ldpLoad mn 4 fun s v => s.setIndex .iy v
  | uma | ums => exact runs_load fun _ => runs_load fun _ => runs_next
  | lsdr | lsir | lsddr | lsidr => exact runs_load fun _ => runs_next
  | subAtHL | subAtIXd d | subAtIYd d | sbcAAtHL | sbcAtIXd d | sbcAtIYd d | orAtHL | orAtIXd d | orAtIYd d
  | xorAtHL | xorAtIXd d | xorAtIYd d =>
    exact runs_load fun _ => runs_next
  | res0AtHL | res1AtHL | res2AtHL | res3AtHL | res4AtHL | res5AtHL | res6AtHL | res7AtHL
  | res0AtIXd d | res1AtIXd d | res2AtIXd d | res3AtIXd d | res4AtIXd d | res5AtIXd d | res6AtIXd d | res7AtIXd d
  | res0AtIYd d | res1AtIYd d | res2AtIYd d | res3AtIYd d | res4AtIYd d | res5AtIYd d | res6AtIYd d | res7AtIYd d
  | set0AtHL | set1AtHL | set2AtHL | set3AtHL | set4AtHL | set5AtHL | set6AtHL | set7AtHL
  | set0AtIXd d | set1AtIXd d | set2AtIXd d | set3AtIXd d | set4AtIXd d | set5AtIXd d | set6AtIXd d | set7AtIXd d
  | set0AtIYd d | set1AtIYd d | set2AtIYd d | set3AtIYd d | set4AtIYd d | set5AtIYd d | set6AtIYd d | set7AtIYd d =>
    exact runs_load fun _ => runs_next
  | rlAtHL | rlcAtHL | rrAtHL | rrcAtHL | slaAtHL | sraAtHL | srlAtHL
  | rlAtIXd d | rlcAtIXd d | rrAtIXd d | rrcAtIXd d | slaAtIXd d | sraAtIXd d | srlAtIXd d
  | rlAtIYd d | rlcAtIYd d | rrAtIYd d | rrcAtIYd d | slaAtIYd d | sraAtIYd d | srlAtIYd d =>
    exact runs_load fun _ => runs_next
  | _ => exact runs_next

theorem not_keepsLjpRule (h : ¬ KeepsLjpRule i s) :
    s.config.ljpAnyTarget = false ∧ ∃ x mn, i = .ljp x mn ∧ mn < 0xE000#16 := by
  simp only [KeepsLjpRule, not_forall, not_or, BitVec.not_le, Bool.not_eq_true] at h
  obtain ⟨x, mn, rfl, hlt, hany⟩ := h
  exact ⟨hany, x, mn, rfl, hlt⟩

theorem exec_ljp_refused {x : Byte} {mn : Word} (hany : s.config.ljpAnyTarget = false) (hlt : mn < 0xE000#16) :
    exec (.ljp x mn) s = .refused .ljpTargetOutsideWindow :=
  if_pos ⟨hlt, hany⟩

/-- Settles O26: the two refusals are raised where they should be, and anything else runs. -/
theorem refusalsAreTheSpecs : Obligations.RefusalsAreTheSpecs := by
  intro i s r
  constructor
  · intro h
    by_cases hp : Privileged i ∧ s.userMode = true
    · obtain ⟨hi, hu⟩ := hp
      rw [exec_privileged_refused hi hu] at h
      cases h
      simp only [State.userMode, Bool.and_eq_true] at hu
      exact .inl ⟨rfl, hi, hu.1, hu.2⟩
    · by_cases hl : KeepsLjpRule i s
      · exact absurd (h ▸ runs_exec hp hl) (not_runs_refused r)
      · obtain ⟨hany, x, mn, rfl, hlt⟩ := not_keepsLjpRule hl
        rw [exec_ljp_refused hany hlt] at h
        cases h
        exact .inr ⟨rfl, hany, x, mn, rfl, hlt⟩
  · rintro (⟨rfl, hi, h3000A, hsu⟩ | ⟨rfl, hany, x, mn, rfl, hlt⟩)
    · exact exec_privileged_refused hi (by simp [State.userMode, h3000A, hsu])
    · exact exec_ljp_refused hany hlt

/-- Settles O27: without the two refusals the instruction runs or meets an unwritten byte. -/
theorem stepRunsUnlessMemoryIsUnwritten : Obligations.StepRunsUnlessMemoryIsUnwritten := by
  intro s i rest hirq hd hp hljp
  unfold SafeStep
  rw [step_of_decode hirq hd]
  exact runs_exec (s := s.beginInstr) hp hljp

/-! ## Where pc goes -/

theorem repeatOrAdvance_bc (x : State) (len : Word) : (x.repeatOrAdvance len).bc = x.bc := by simp [State.bc]

/-- An iteration ends with pc by the BC it leaves. -/
theorem repeatOrAdvance_pc_of (x : State) (len : Word) (hpc : x.pc = s.pc) (ht : x.repeatOrAdvance len = t) :
    t.pc = if t.bc = 0 then s.pc + len else s.pc := by
  rw [← ht, repeatOrAdvance_bc, State.repeatOrAdvance_pc, hpc]

theorem encodedLen_copy (op : Copy) (space : Option IoSpace) :
    encodedLen (.copy op space) = if space = none then 2 else 3 := by
  cases op <;> rcases space with _ | _ | _ <;> rfl

theorem repeating_pc (hi : Repeating i) (h : exec i s = .next t) :
    t.pc = if t.bc = 0 then s.pc + encodedLen i else s.pc := by
  obtain rfl | rfl | ⟨op, space, rfl⟩ := hi
  · replace h : execUma s = .next t := h
    obtain ⟨_, -, h⟩ := State.load_next h
    obtain ⟨_, -, h⟩ := State.load_next h
    injection h with h
    exact repeatOrAdvance_pc_of _ _ (by simp) h
  · replace h : execUms s = .next t := h
    obtain ⟨_, -, h⟩ := State.load_next h
    obtain ⟨_, -, h⟩ := State.load_next h
    injection h with h
    exact repeatOrAdvance_pc_of _ _ (by simp) h
  · rw [encodedLen_copy]
    rw [exec_copy] at h
    cases space with
    | none =>
      obtain ⟨_, -, h⟩ := State.load_next h
      injection h with h
      exact repeatOrAdvance_pc_of _ _ (by simp) h
    | some space =>
      simp only [blockCopy, readSource, State.ioRead_eq] at h
      injection h with h
      exact repeatOrAdvance_pc_of _ _ (by simp) h

theorem effect_pc (h : Effect i s t) : Transfer i ∨ Repeating i ∨ t.pc = s.pc + encodedLen i := by
  cases h with
  | flags _ hi =>
    obtain hi | ⟨f, hi, -⟩ := hi
    · rw [‹t = _›]; simp
    · exact .inl (.inr (.inr (.inl ⟨f, hi⟩)))
  | ret _ hi =>
    obtain hi | ⟨f, hi, -⟩ := hi
    · exact .inl (.inr (.inl (by simp [hi])))
    · exact .inl (.inr (.inr (.inl ⟨f, hi⟩)))
  | lret _ _ hi | reti _ _ hi => exact .inl (.inr (.inl (by simp [hi])))
  | ljp x mn hi => exact .inl (.inl ⟨x, mn, hi⟩)
  | trap _ hi => exact .inl (.inr (.inr (.inr hi)))
  | copy _ _ _ _ _ _ hi => exact .inr (.inl (repeating_copy hi))
  | mac _ _ _ hi => exact .inr (.inl (repeating_mac hi))
  | _ => rw [‹t = _›]; simp

/-- Settles O28: every effect but a transfer or an iteration advances pc by the instruction's length. -/
theorem pcAdvances : Obligations.PcAdvances := by
  intro i s t h htransfer
  have repeats (hr : Repeating i) := repeating_pc hr h
  refine ⟨fun hc => ?_, fun ⟨hr, hbc⟩ => by rw [repeats hr, if_neg hbc]⟩
  obtain hi | hr | hpc := effect_pc (exec_effect h)
  · exact absurd hi htransfer
  · rw [repeats hr, if_pos (hc.resolve_left (not_not_intro hr))]; rfl
  · exact hpc

end Sys2Proof.Stops
end

section
/-! PROOFS. The results of LDP and of the control transfers (40_ldp.md, 41_control.md). -/

namespace Sys2Proof.Control

open Sys2Proof.Machine Sys2Proof.Stops

variable {s t : State} {i : Instr}

/-! ## LDP -/

theorem ldpStore_eq (a v len : Word) (s : State) :
    ldpStore a v len s = .next { s with
      mem := (s.mem.write (s.ldpAddr a) (loByte v)).write (s.ldpAddr (a + 1)) (hiByte v),
      f := (s.putFlags noFlags).f, draws := (s.putFlags noFlags).draws, pc := s.pc + len } := by
  rw [ldpStore, State.putFlags_advance s] <;> rfl

/-- Settles O29: the six rows are one store with the row's address and source. -/
theorem ldpStores : Obligations.LdpStores := by
  intro s mn i a v h
  have stores : exec i s = ldpStore a v (encodedLen i) s := by
    simp only [List.mem_cons, Prod.mk.injEq, List.not_mem_nil, or_false] at h
    obtain ⟨rfl, rfl, rfl⟩ | ⟨rfl, rfl, rfl⟩ | ⟨rfl, rfl, rfl⟩ | ⟨rfl, rfl, rfl⟩ | ⟨rfl, rfl, rfl⟩ | ⟨rfl, rfl, rfl⟩ := h
    all_goals rfl
  rw [stores, ldpStore_eq]
  exact ⟨_, _, _, rfl, Memory.write_storedTwo _ _ _ _ _, State.putFlags_after s noFlags⟩

theorem setHL_word (s : State) (hi lo : Byte) : s.setHL (word hi lo) = { s with h := hi, l := lo } := by
  rw [State.setHL, hiByte_word, loByte_word]

theorem ldpLoad_of {a : Word} {lo hi : Byte} (len : Word) (put : State → Word → State)
    (hlo : s.mem.read (s.ldpAddr a) = some lo) (hhi : s.mem.read (s.ldpAddr (a + 1)) = some hi) :
    ldpLoad a len put s = .next (((put s (word hi lo)).putFlags noFlags).advance len) := by
  rw [ldpLoad, State.loadLdp_of _ hlo hhi]

/-- Settles O30: both bytes are read before the destination is written. -/
theorem ldpLoads : Obligations.LdpLoads := by
  intro s mn a lo hi hlo hhi
  refine ⟨_, _, State.putFlags_after s noFlags, fun i hi' => ?_, ?_, ?_⟩
  · have loads : exec i s = ldpLoad a (encodedLen i) State.setHL s := by
      simp only [List.mem_cons, Prod.mk.injEq, List.not_mem_nil, or_false] at hi'
      obtain ⟨rfl, rfl⟩ | ⟨rfl, rfl⟩ | ⟨rfl, rfl⟩ | ⟨rfl, rfl⟩ := hi' <;> rfl
    rw [loads, ldpLoad_of _ _ hlo hhi, setHL_word, State.putFlags_advance s] <;> rfl
  · rintro rfl
    have loads : exec (.ldpIXAtMn a) s = ldpLoad a 4 (fun s v => s.setIndex .ix v) s := rfl
    rw [loads, ldpLoad_of _ _ hlo hhi, State.putFlags_advance s] <;> rfl
  · rintro rfl
    have loads : exec (.ldpIYAtMn a) s = ldpLoad a 4 (fun s v => s.setIndex .iy v) s := rfl
    rw [loads, ldpLoad_of _ _ hlo hhi, State.putFlags_advance s] <;> rfl

/-! ## LJP, LRET, RET, RET f, RETI -/

/-- Settles O31: under LJP's rule the refusal is not raised. -/
theorem ljpLoadsXpcAndPc : Obligations.LjpLoadsXpcAndPc := by
  intro s x mn h
  refine ⟨_, _, ?_, State.putFlags_after s noFlags⟩
  rw [exec_ljp_of h, State.putFlags_update s] <;> rfl

/-- Settles O32: the three bytes are read before XPC is written. -/
theorem lretPopsPcAndXpc : Obligations.LretPopsPcAndXpc := by
  intro s lo hi x hlo hhi hx
  refine ⟨_, _, ?_, State.putFlags_after s noFlags⟩
  show execLret s = _
  rw [execLret, State.loadWord_of _ hlo hhi, State.load_of _ hx, State.putFlags_update s] <;> rfl

theorem returnNear_of {lo hi : Byte} (hlo : s.readByte s.sp = some lo) (hhi : s.readByte (s.sp + 1) = some hi) :
    returnNear s = .next { s with
      pc := word hi lo, sp := s.sp + 2, f := (s.putFlags noFlags).f, draws := (s.putFlags noFlags).draws } := by
  rw [returnNear, State.popWord_of _ hlo hhi, State.putFlags_update s] <;> rfl

theorem returnIf_false (f : Cond) (h : s.holds f = false) :
    returnIf f s = .next { s with
      pc := s.pc + 1, f := (s.putFlags noFlags).f, draws := (s.putFlags noFlags).draws } := by
  rw [returnIf, h, State.putFlags_advance s] <;> rfl

theorem returnIf_true (f : Cond) (h : s.holds f = true) : returnIf f s = returnNear s := by
  rw [returnIf, if_pos h]

/-- RET f by the truth of its condition (R29, R143). -/
theorem exec_retIf_results (f : Cond) (s : State) :
    (s.holds f = false → exec (.retIf f) s = .next { s with
      pc := s.pc + 1, f := (s.putFlags noFlags).f, draws := (s.putFlags noFlags).draws }) ∧
    (s.holds f = true → ∀ lo hi, s.readByte s.sp = some lo → s.readByte (s.sp + 1) = some hi →
      exec (.retIf f) s = .next { s with
        pc := hi ++ lo, sp := s.sp + 2, f := (s.putFlags noFlags).f, draws := (s.putFlags noFlags).draws }) := by
  rw [exec_retIf]
  exact ⟨returnIf_false f, fun h lo hi hlo hhi => (returnIf_true f h).trans (returnNear_of hlo hhi)⟩

/-- Settles O33: RET is the pop, and each RET f is the pop where its condition holds. -/
theorem retPopsPc : Obligations.RetPopsPc := by
  intro s i taken h
  refine ⟨_, _, State.putFlags_after s noFlags, ?_⟩
  simp only [List.mem_cons, Prod.mk.injEq, List.not_mem_nil, or_false] at h
  obtain ⟨rfl, rfl⟩ | h := h
  · exact ⟨nofun, fun _ lo hi hlo hhi => returnNear_of hlo hhi⟩
  obtain ⟨f, rfl, rfl⟩ : ∃ f, i = .retIf f ∧ taken = s.holds f := by
    obtain ⟨rfl, rfl⟩ | ⟨rfl, rfl⟩ | ⟨rfl, rfl⟩ | ⟨rfl, rfl⟩ | ⟨rfl, rfl⟩ | ⟨rfl, rfl⟩ | ⟨rfl, rfl⟩ | ⟨rfl, rfl⟩ := h
    exacts [⟨.nz, rfl, rfl⟩, ⟨.z, rfl, rfl⟩, ⟨.nc, rfl, rfl⟩, ⟨.c, rfl, rfl⟩, ⟨.lz, rfl, rfl⟩, ⟨.lo, rfl, rfl⟩,
      ⟨.p, rfl, rfl⟩, ⟨.m, rfl, rfl⟩]
  exact exec_retIf_results f s

theorem readByte_of_sp (s : State) (x a : Word) : { s with sp := x }.readByte a = s.readByte a := rfl

theorem returnFromInterrupt_of {ip lo hi : Byte} (k : State → Out) (hip : s.readByte s.sp = some ip)
    (hlo : s.readByte (s.sp + 1) = some lo) (hhi : s.readByte (s.sp + 2) = some hi) :
    s.returnFromInterrupt k = k { s with ip := ip, pc := word hi lo, sp := s.sp + 3 } := by
  have hsp2 : s.sp + 1 + 1 = s.sp + 2 := BitVec.add_assoc ..
  have hsp3 : s.sp + 1 + 2 = s.sp + 3 := BitVec.add_assoc ..
  have hlo' : { s with sp := s.sp + 1 }.readByte (s.sp + 1) = some lo := (readByte_of_sp ..).trans hlo
  have hhi' : { s with sp := s.sp + 1 }.readByte (s.sp + 1 + 1) = some hi := by rw [readByte_of_sp, hsp2, hhi]
  rw [State.returnFromInterrupt, State.popByte_of _ hip, State.popWord_of (s := { s with sp := s.sp + 1 }) _ hlo' hhi',
    hsp3]

/-- Settles O34: the check passes, then IP and PC are popped. -/
theorem retiPopsIpAndPc : Obligations.RetiPopsIpAndPc := by
  intro s ip lo hi hu hip hlo hhi
  refine ⟨_, _, ?_, State.putFlags_after s noFlags⟩
  rw [exec_reti, State.privileged_of _ hu, returnFromInterrupt_of (s := { s with inhibit := true }) _ hip hlo hhi,
    State.putFlags_update s] <;> rfl

/-! ## Software traps -/

theorem exec_trap_eq {offset : Byte} (h : exec i s =
    .next ((s.enterTrap (s.pc + encodedLen i) (word s.iir offset)).putFlags noFlags)) :
    ∃ m, exec i s = .next { s with
        mem := m, sp := s.sp - 2, pc := s.iir ++ offset,
        f := (s.putFlags noFlags).f, draws := (s.putFlags noFlags).draws,
        su := if s.config.is3000A ∧ s.config.suOnTrap = .pushSystem then s.su.extractLsb' 0 6 ++ 0b00#2 else s.su } ∧
      StoredTwo s.mem m (s.translate (s.sp - 1)) (hiByte (s.pc + encodedLen i)) (s.translate (s.sp - 2))
        (loByte (s.pc + encodedLen i)) := by
  refine ⟨_, ?_, Memory.write_storedTwo _ _ _ _ _⟩
  rw [h, State.enterTrap_eq, State.putFlags_update s] <;> rfl

/-- Settles O35: the six traps are one entry with the row's offset. -/
theorem trapsEnterTheTable : Obligations.TrapsEnterTheTable := by
  rintro s i offset h _ rfl
  have enters : exec i s = .next ((s.enterTrap (s.pc + encodedLen i) (word s.iir offset)).putFlags noFlags) := by
    simp only [List.mem_cons, Prod.mk.injEq, List.not_mem_nil, or_false] at h
    obtain ⟨rfl, rfl⟩ | ⟨rfl, rfl⟩ | ⟨rfl, rfl⟩ | ⟨rfl, rfl⟩ | ⟨rfl, rfl⟩ | ⟨rfl, rfl⟩ := h <;> rfl
  obtain ⟨m, hm, hstored⟩ := exec_trap_eq enters
  exact ⟨m, _, _, hm, hstored, State.putFlags_after s noFlags⟩

/-! ## Frames: two bytes of the stack at two physical places -/

/-- The segment translation maps a logical address to a physical one with the same low 12 bits. -/
theorem translate_low (h : s.config.translation = .segments) (a : Word) :
    (s.translate a).toNat % 4096 = a.toNat % 4096 := by
  rw [Steps.translationFollowsSegments s a h]
  omega

theorem translate_ne_of_segments (h : s.config.translation = .segments) {a b : Word}
    (hab : a.toNat % 4096 ≠ b.toNat % 4096) : s.translate a ≠ s.translate b := by
  intro e
  have := congrArg BitVec.toNat e
  have ha := translate_low h a
  have hb := translate_low h b
  omega

/-- The two bytes of a frame are at two physical places. -/
theorem frame_apart
    (h : s.config.translation = .segments ∨ s.translate (s.sp - 1) ≠ s.translate (s.sp - 2)) :
    s.translate (s.sp - 1) ≠ s.translate (s.sp - 2) := by
  refine h.elim (fun h => translate_ne_of_segments h ?_) id
  have := s.sp.isLt
  show (s.sp - 1#16).toNat % 4096 ≠ (s.sp - 2#16).toNat % 4096
  simp only [BitVec.toNat_sub, BitVec.toNat_ofNat]
  omega

/-- What a push left can be read back by a pop. -/
theorem readByte_of_pushed {v : Word} (hsp : t.sp = s.sp - 2) (htr : ∀ a, t.translate a = s.translate a)
    (hm : StoredTwo s.mem t.mem (s.translate (s.sp - 1)) (hiByte v) (s.translate (s.sp - 2)) (loByte v))
    (hne : s.translate (s.sp - 1) ≠ s.translate (s.sp - 2)) :
    t.readByte t.sp = some (loByte v) ∧ t.readByte (t.sp + 1) = some (hiByte v) := by
  have hsp1 : s.sp - 2 + 1 = s.sp - 1 := by bv_omega
  rw [State.readByte, State.readByte, htr, htr, hsp, hsp1, hm, hm, if_pos rfl, if_neg hne, if_pos rfl]
  exact ⟨rfl, rfl⟩

/-- Settles O36: the frame is read back as it was pushed, because its two bytes do not overlap. -/
theorem retReturnsFromTrap : Obligations.RetReturnsFromTrap := by
  intro s t i hi h hframe
  obtain ⟨offset, hexec⟩ := exec_trap hi
  obtain ⟨m, hm, hstored⟩ := exec_trap_eq (hexec s)
  rw [hm] at h
  injection h with h
  have hsp : t.sp = s.sp - 2 := by rw [← h]
  have hmem : t.mem = m := by rw [← h]
  have htr (a : Word) : t.translate a = s.translate a := by rw [← h]; exact State.translate_congr rfl rfl rfl rfl rfl a
  obtain ⟨hlo, hhi⟩ := readByte_of_pushed hsp htr (hmem ▸ hstored) (frame_apart hframe)
  refine ⟨_, returnNear_of hlo hhi, word_hiByte_loByte _, ?_, rfl⟩
  show t.sp + 2 = s.sp
  rw [hsp, BitVec.sub_add_cancel]

end Sys2Proof.Control
end

section
/-! PROOFS. One iteration of the repeating instructions (42_block.md). -/

namespace Sys2Proof.Block

open Sys2Proof.Machine

variable {s : State}

theorem sub_one_eq_zero_iff (w : Word) : w - 1 = 0 ↔ w = 1 := sub_eq_zero

/-- Flags written, and pc by the BC that is left, as one update. -/
theorem putFlags_repeatOrAdvance (s x : State) (w : FlagWrites) (len : Word) (hf : x.f = s.f)
    (hd : x.draws = s.draws) (hc : x.config = s.config) (hbc : x.bc = s.bc - 1) (hpc : x.pc = s.pc) :
    (x.putFlags w).repeatOrAdvance len = { x with
      f := (s.putFlags w).f, draws := (s.putFlags w).draws, pc := if s.bc = 1 then s.pc + len else s.pc } := by
  have hbc' : (x.putFlags w).bc = s.bc - 1 := by rw [← hbc]; simp [State.bc]
  rw [State.repeatOrAdvance, hbc']
  by_cases h : s.bc = 1
  · rw [if_pos ((sub_one_eq_zero_iff _).mpr h), if_pos h, State.putFlags_advance s x w len hf hd hc, hpc]
  · rw [if_neg (mt (sub_one_eq_zero_iff _).mp h), if_neg h, State.putFlags_update s x w hf hd hc, ← hpc]

/-! ## The block copies -/

/-- L/V while BC is not zero (D18). -/
theorem overflowOnly_count (s : State) :
    overflowOnly (s.bc - 1 != 0) = ⟨.kept, .kept, .stated (decide (s.bc ≠ 1)), .kept⟩ := by
  have h : (s.bc - 1 != 0) = decide (s.bc ≠ 1) := by
    rw [bne, beq_eq_decide, decide_not]
    simp only [sub_one_eq_zero_iff]
  rw [h]; rfl

/-- What a block copy leaves, with the I/O input it has used up. -/
theorem copied_eq (op : Copy) (len : Word) (v : Byte) (answers : List Byte) (reads : Nat) (s : State) :
    (((((({ s with ioAnswers := answers, ioReads := reads }.store s.de v).setBC (s.bc - 1)).setDE
      (s.de + copyStepDE op)).setHL (s.hl + copyStepHL op)).putFlags (overflowOnly (s.bc - 1 != 0))).repeatOrAdvance
      len) = { s with
        mem := s.mem.write (s.translate s.de) v, f := (s.putFlags (overflowOnly (s.bc - 1 != 0))).f,
        draws := (s.putFlags (overflowOnly (s.bc - 1 != 0))).draws,
        b := hiByte (s.bc - 1), c := loByte (s.bc - 1),
        d := hiByte (s.de + copyStepDE op), e := loByte (s.de + copyStepDE op),
        h := hiByte (s.hl + copyStepHL op), l := loByte (s.hl + copyStepHL op),
        pc := if s.bc = 1 then s.pc + len else s.pc, ioAnswers := answers, ioReads := reads } := by
  rw [putFlags_repeatOrAdvance s]
  case hbc => exact word_hiByte_loByte _
  all_goals rfl

theorem copied_flags (s : State) :
    FlagsAfter s ⟨.kept, .kept, .stated (decide (s.bc ≠ 1)), .kept⟩ (s.putFlags (overflowOnly (s.bc - 1 != 0))).f
      (s.putFlags (overflowOnly (s.bc - 1 != 0))).draws :=
  overflowOnly_count s ▸ State.putFlags_after s _

/-- Settles O37: the source is the byte at HL, and no I/O input is used up. -/
theorem blockCopyIteration : Obligations.BlockCopyIteration := by
  intro s i stepDE stepHL v h hv
  obtain ⟨op, rfl, rfl, rfl⟩ : ∃ op, i = .copy op none ∧ stepDE = copyStepDE op ∧ stepHL = copyStepHL op := by
    simp only [List.mem_cons, Prod.mk.injEq, List.not_mem_nil, or_false] at h
    obtain ⟨rfl, rfl, rfl⟩ | ⟨rfl, rfl, rfl⟩ | ⟨rfl, rfl, rfl⟩ | ⟨rfl, rfl, rfl⟩ := h
    exacts [⟨.lsdr, rfl, rfl, rfl⟩, ⟨.lsir, rfl, rfl, rfl⟩, ⟨.lsddr, rfl, rfl, rfl⟩, ⟨.lsidr, rfl, rfl, rfl⟩]
  refine ⟨_, _, _, ?_, Memory.write_stored s.mem _ _, copied_flags s⟩
  rw [exec_copy, blockCopy, readSource, State.load_of _ hv]
  exact congrArg _ (copied_eq op 2 v s.ioAnswers s.ioReads s)

/-- Settles O38: the one I/O read is the source, and the store stays in memory. -/
theorem prefixedBlockCopyIteration : Obligations.PrefixedBlockCopyIteration := by
  intro s i space stepDE stepHL h
  obtain ⟨op, rfl, rfl, rfl⟩ :
      ∃ op, i = .copy op (some space) ∧ stepDE = copyStepDE op ∧ stepHL = copyStepHL op := by
    simp only [List.mem_cons, Prod.mk.injEq, List.not_mem_nil, or_false] at h
    obtain ⟨rfl, rfl, rfl, rfl⟩ | ⟨rfl, rfl, rfl, rfl⟩ | ⟨rfl, rfl, rfl, rfl⟩ | ⟨rfl, rfl, rfl, rfl⟩ |
      ⟨rfl, rfl, rfl, rfl⟩ | ⟨rfl, rfl, rfl, rfl⟩ | ⟨rfl, rfl, rfl, rfl⟩ | ⟨rfl, rfl, rfl, rfl⟩ := h
    exacts [⟨.lsdr, rfl, rfl, rfl⟩, ⟨.lsir, rfl, rfl, rfl⟩, ⟨.lsddr, rfl, rfl, rfl⟩, ⟨.lsidr, rfl, rfl, rfl⟩,
      ⟨.lsdr, rfl, rfl, rfl⟩, ⟨.lsir, rfl, rfl, rfl⟩, ⟨.lsddr, rfl, rfl, rfl⟩, ⟨.lsidr, rfl, rfl, rfl⟩]
  refine ⟨(s.ioRead space s.hl).1, _, _, _, ?_, fun _ _ h => State.ioRead_answer space s.hl h,
    State.ioRead_free space s.hl, Memory.write_stored s.mem _ _, copied_flags s⟩
  rw [exec_copy, blockCopy, readSource, State.ioRead_eq]
  exact congrArg _ (copied_eq op 3 _ _ _ s)

/-! ## UMA and UMS -/

theorem macFinish_eq (v : Byte) (high : Word × Bool) (s : State) :
    macFinish v high s = .next { s with
      mem := s.mem.write (s.translate s.hl) v, f := (s.putFlags (carryOnly high.2)).f,
      draws := (s.putFlags (carryOnly high.2)).draws, deAlt := high.1,
      b := hiByte (s.bc - 1), c := loByte (s.bc - 1), h := hiByte (s.hl + 1), l := loByte (s.hl + 1),
      ix := s.ix + 1, iy := s.iy + 1, pc := if s.bc = 1 then s.pc + 2 else s.pc } := by
  rw [macFinish, putFlags_repeatOrAdvance s]
  case hbc => exact word_hiByte_loByte _
  all_goals rfl

/-- The three parts of a 25-bit number, put together again. -/
theorem macSplit_toNat (t : BitVec 25) :
    (macSplit t).1.toNat + 256 * (macSplit t).2.1.toNat + 2 ^ 24 * (macSplit t).2.2.toNat = t.toNat := by
  have := t.isLt
  have hbit : (t.getLsbD 24).toNat = t.toNat / 2 ^ 24 := by
    rw [BitVec.getLsbD, Nat.testBit_eq_decide_div_mod_eq]
    have : t.toNat / 2 ^ 24 = 0 ∨ t.toNat / 2 ^ 24 = 1 := by omega
    obtain h | h := this <;> rw [h] <;> rfl
  simp only [macSplit, BitVec.extractLsb'_toNat, Nat.shiftRight_eq_div_pow, hbit]
  omega

theorem macSplit_low (t : BitVec 25) : (macSplit t).1.toNat = t.toNat % 256 := by
  simp [macSplit, BitVec.extractLsb'_toNat]

theorem macSum_lt (s : State) (y : Byte) : macSum s y ≤ 255 * 65535 + 65536 := by
  have hmul : y.toNat * s.de.toNat ≤ 255 * 65535 :=
    Nat.mul_le_mul (Nat.le_of_lt_succ y.isLt) (Nat.le_of_lt_succ s.de.isLt)
  have := s.deAlt.isLt
  have := (flagC s.f).toNat_le
  unfold macSum
  omega

theorem execUma_of {x y : Byte} (hy : s.readByte s.iy = some y) (hx : s.readByte s.ix = some x) :
    execUma s = macFinish (macSplit (BitVec.ofNat 25 (x.toNat + macSum s y))).1
      (macSplit (BitVec.ofNat 25 (x.toNat + macSum s y))).2 s := by
  rw [execUma, State.load_of _ hy, State.load_of _ hx]

/-- Settles O39: the sum has at most 25 bits. -/
theorem umaIteration : Obligations.UmaIteration := by
  intro s x y hy hx
  have hsum := macSum_lt s y
  have hx' := x.isLt
  refine ⟨_, _, _, _, _, _, (execUma_of hy hx).trans (macFinish_eq ..), ?_, Memory.write_stored s.mem _ _,
    State.putFlags_after s _⟩
  rw [macSplit_toNat, BitVec.toNat_ofNat, Nat.mod_eq_of_lt (by omega)]
  rfl

/-- A 25-bit difference as a number. -/
theorem toNat_ofInt25 (z : Int) : ((BitVec.ofInt 25 z).toNat : Int) = z % 2 ^ 25 := by
  rw [BitVec.toNat_ofInt]
  omega

/-- What UMS computes (R169). -/
def macDifference (s : State) (x y : Byte) : Int := x.toNat - macSum s y

theorem execUms_of {x y : Byte} (hy : s.readByte s.iy = some y) (hx : s.readByte s.ix = some x) :
    execUms s = macFinish (macSplit (BitVec.ofInt 25 (macDifference s x y))).1 (umsHigh x y s) s := by
  rw [execUms, State.load_of _ hy, State.load_of _ hx]; rfl

theorem umsHigh_literal {x y : Byte} (h : s.config.umsReading = .literal) :
    umsHigh x y s = (macSplit (BitVec.ofInt 25 (macDifference s x y))).2 := by
  simp only [umsHigh, h]; rfl

theorem umsHigh_borrowChain {x y : Byte} (h : s.config.umsReading = .borrowChain) :
    umsHigh x y s = (BitVec.ofNat 16 (macSum s y / 256), decide (x.toNat < macSum s y % 256)) := by
  simp only [umsHigh, h]

/-- Settles O40: the low byte is the difference's under each reading, and `umsHigh` reads U2 as its clauses do. -/
theorem umsIteration : Obligations.UmsIteration := by
  rintro s x y hy hx _ rfl
  have hz := toNat_ofInt25 (macDifference s x y)
  refine ⟨(macSplit (BitVec.ofInt 25 (macDifference s x y))).1, (umsHigh x y s).1, (umsHigh x y s).2, _, _, _,
    (execUms_of hy hx).trans (macFinish_eq ..), ?_, fun hr => ?_, fun hr => ?_, Memory.write_stored s.mem _ _,
    State.putFlags_after s _⟩
  · rw [macSplit_low]
    show _ = macDifference s x y % 256
    omega
  · rw [umsHigh_literal hr]
    show _ = macDifference s x y % 2 ^ 25
    rw [← hz, ← macSplit_toNat (BitVec.ofInt 25 (macDifference s x y))]
    push_cast
    rfl
  · have hsum := macSum_lt s y
    rw [umsHigh_borrowChain hr]
    refine ⟨?_, decide_eq_true_iff⟩
    rw [BitVec.toNat_ofNat, Nat.mod_eq_of_lt (by omega)]
    rfl

end Sys2Proof.Block
end

section
/-! PROOFS. Arithmetic and logic (43_arith.md, 44_logic.md): first the flag computations of R33 and R34 in the
arithmetic the statements are made in, then the results. -/

namespace Sys2Proof.Arith

open Sys2Proof.Machine

variable {s : State} {i : Instr}

/-! ## Numbers -/

theorem toNat_append_eq {m n : Nat} (x : BitVec m) (y : BitVec n) : (x ++ y).toNat = x.toNat * 2 ^ n + y.toNat := by
  rw [BitVec.toNat_append, ← Nat.shiftLeft_add_eq_or_of_lt y.isLt, Nat.shiftLeft_eq]

/-- A subtraction modulo `2 ^ w`, in the integers. -/
theorem toNat_sub_eq {w : Nat} (x y : BitVec w) : ((x - y).toNat : Int) = ((x.toNat : Int) - y.toNat) % 2 ^ w := by
  rw [BitVec.toNat_sub]
  push_cast [Nat.cast_sub y.isLt.le]
  rw [show (2 ^ w - y.toNat + x.toNat : Int) = x.toNat - y.toNat + 2 ^ w by ring, Int.add_emod_right]

/-- `difference` is the difference modulo `2 ^ w` (R34). -/
theorem difference_toNat {w : Nat} (hw : 0 < w) (x y : BitVec w) (cin : Bool) :
    ((difference x y cin).toNat : Int) = ((x.toNat : Int) - y.toNat - cin.toNat) % 2 ^ w := by
  have hcin : (BitVec.ofNat w cin.toNat).toNat = cin.toNat := by
    rw [BitVec.toNat_ofNat, Nat.mod_eq_of_lt]
    exact lt_of_le_of_lt cin.toNat_le (Nat.one_lt_two_pow hw.ne')
  rw [difference, toNat_sub_eq, toNat_sub_eq, hcin, Int.emod_sub_emod]

/-! ## Flags -/

/-- The four most significant bits are not all zero. -/
theorem logicBit_eq {w : Nat} (hw : 4 ≤ w) (res : BitVec w) : logicBit res = decide (2 ^ (w - 4) ≤ res.toNat) := by
  have hlt := res.isLt
  have hpow : 2 ^ w = 2 ^ (w - 4) * 16 := by rw [← Nat.sub_add_cancel hw, Nat.pow_add]; simp
  have htop : (res.extractLsb' (w - 4) 4).toNat = res.toNat / 2 ^ (w - 4) := by
    rw [BitVec.extractLsb'_toNat, Nat.shiftRight_eq_div_pow, Nat.mod_eq_of_lt]
    exact Nat.div_lt_of_lt_mul (by omega)
  rw [logicBit, bne, beq_eq_decide, ← decide_not, decide_eq_decide, BitVec.toNat_eq, htop]
  simp [Nat.div_eq_zero_iff]

section
variable {w : Nat} (hw : 4 ≤ w)
include hw

theorem logicFlags_eq (res : BitVec w) : logicFlags res =
    ⟨.believed (res.getLsbD (w - 1)), .believed (decide (res = 0)), .believed (decide (2 ^ (w - 4) ≤ res.toNat)),
      .believed false⟩ := by
  rw [logicFlags, BitVec.msb_eq_getLsbD_last, logicBit_eq hw]; rfl

theorem shiftFlags_eq (res : BitVec w) (carry : Bool) : shiftFlags res carry =
    ⟨.believed (res.getLsbD (w - 1)), .believed (decide (res = 0)), .believed (decide (2 ^ (w - 4) ≤ res.toNat)),
      .stated carry⟩ := by
  rw [shiftFlags, BitVec.msb_eq_getLsbD_last, logicBit_eq hw]; rfl

end

theorem sbcFlags_eq {w : Nat} (x y : BitVec w) (cin : Bool) : sbcFlags x y cin =
    ⟨.believed ((difference x y cin).getLsbD (w - 1)), .believed (decide (difference x y cin = 0)),
      .believed (decide (x.toInt - y.toInt - cin.toNat < -2 ^ (w - 1) ∨
        2 ^ (w - 1) - 1 < x.toInt - y.toInt - cin.toNat)),
      .stated (decide (x.toNat < y.toNat + cin.toNat))⟩ := by
  rw [sbcFlags, BitVec.msb_eq_getLsbD_last]; rfl

theorem subFlags_eq {w : Nat} (x y : BitVec w) : subFlags x y =
    ⟨.believed ((difference x y false).getLsbD (w - 1)), .believed (decide (difference x y false = 0)),
      .believed (decide (x.toInt - y.toInt < -2 ^ (w - 1) ∨ 2 ^ (w - 1) - 1 < x.toInt - y.toInt)),
      .believed (decide (x.toNat < y.toNat))⟩ := by
  rw [subFlags, BitVec.msb_eq_getLsbD_last]
  simp only [subOverflow, borrow, Bool.toNat_false, Nat.cast_zero, sub_zero, add_zero]
  rfl

/-! ## MUL -/

theorem toInt_product (x y : Word) : (BitVec.ofInt 32 (x.toInt * y.toInt)).toInt = x.toInt * y.toInt := by
  have hle : x.toInt * y.toInt ≤ 2 ^ 30 := BitVec.toInt_mul_toInt_le
  have hge : -2 ^ 30 ≤ x.toInt * y.toInt := BitVec.le_toInt_mul_toInt
  exact BitVec.toInt_ofInt_eq_self (by omega) (by omega) (by omega)

/-- Four bytes of a 32-bit number, put together again. -/
theorem bytes_append (p : BitVec 32) :
    (hiByte (p.extractLsb' 16 16) ++ loByte (p.extractLsb' 16 16) ++ hiByte (p.extractLsb' 0 16) ++
      loByte (p.extractLsb' 0 16) : BitVec 32) = p := by
  have := p.isLt
  apply BitVec.eq_of_toNat_eq
  simp only [toNat_append_eq, hiByte_toNat, loByte_toNat, BitVec.extractLsb'_toNat, Nat.shiftRight_eq_div_pow]
  omega

theorem setHL_setBC_eq (s : State) (high low : Word) (w : FlagWrites) (len : Word) :
    (((s.setHL high).setBC low).putFlags w).advance len = { s with
      h := hiByte high, l := loByte high, b := hiByte low, c := loByte low,
      f := (s.putFlags w).f, draws := (s.putFlags w).draws, pc := s.pc + len } := by
  rw [State.putFlags_advance s] <;> rfl

/-- Settles O41: the product of two signed 16-bit numbers fits in 32 bits. -/
theorem mulIsExact : Obligations.MulIsExact := by
  intro s
  refine ⟨_, _, _, _, _, _, congrArg _ (setHL_setBC_eq ..), ?_, State.putFlags_after s noFlags⟩
  rw [bytes_append, toInt_product]

/-! ## The 8-bit operations into A -/

/-- A form of an operation runs it on its operand byte. -/
theorem exec_of_aluOperand {op : Alu} {y : Byte} (h : AluOperand op s i y) : exec i s = aluA op y (encodedLen i) s := by
  obtain ⟨r, rfl, rfl⟩ | rfl | ⟨m, a, rfl, ha, hy⟩ := h
  · have hl : encodedLen (Instr.aluReg op r) = 1 := by cases op <;> cases r <;> rfl
    rw [exec_aluReg, hl]
  · have hl : encodedLen (Instr.aluN op y) = 2 := by cases op <;> rfl
    rw [exec_aluN, hl]
  · have hl : encodedLen (Instr.aluAt op m) = if m = .hl then 1 else 3 := by
      cases op <;> rcases m with _ | ⟨_ | _, _⟩ <;> rfl
    obtain rfl := (s.addressOf_iff m a).mp ha
    rw [exec_aluAt, State.load_of _ hy, hl]

/-- A result in A, its flags, and pc past the instruction. -/
theorem accumulator_eq (s : State) (res : Byte) (w : FlagWrites) (len : Word) :
    ({ s with a := res }.putFlags w).advance len = { s with
      a := res, f := (s.putFlags w).f, draws := (s.putFlags w).draws, pc := s.pc + len } := by
  rw [State.putFlags_advance s] <;> rfl

/-- Settles O42: NEG is the subtraction of A from zero. -/
theorem subAndNegResult : Obligations.SubAndNegResult := by
  intro s i x y h
  have runs : exec i s =
      .next (({ s with a := difference x y false }.putFlags (subFlags x y)).advance (encodedLen i)) := by
    obtain ⟨rfl, h⟩ | ⟨rfl, rfl, rfl⟩ := h
    · exact exec_of_aluOperand h
    · rfl
  refine ⟨difference x y false, _, _, runs.trans (congrArg _ (accumulator_eq ..)), ?_, ?_⟩
  · rw [difference_toNat (by omega)]
    simp
  · exact subFlags_eq x y ▸ State.putFlags_after s (subFlags x y)

/-- Settles O43: the difference and its flags are those of R34. -/
theorem sbcResult : Obligations.SbcResult := by
  rintro s i y h _ rfl
  refine ⟨difference s.a y (flagC s.f), _, _, (exec_of_aluOperand h).trans (congrArg _ (accumulator_eq ..)),
    difference_toNat (by omega) .., ?_⟩
  exact sbcFlags_eq s.a y (flagC s.f) ▸ State.putFlags_after s (sbcFlags s.a y (flagC s.f))

/-- Settles O45: both operations end alike, with the logic flags of their result. -/
theorem orXorResult : Obligations.OrXorResult := by
  intro s op i y res h hres
  have runs : exec i s = logicA res (encodedLen i) s := by
    simp only [List.mem_cons, Prod.mk.injEq, List.not_mem_nil, or_false] at hres
    obtain ⟨rfl, rfl⟩ | ⟨rfl, rfl⟩ := hres <;> exact exec_of_aluOperand h
  refine ⟨_, _, runs.trans (congrArg _ (accumulator_eq ..)), ?_⟩
  exact logicFlags_eq (w := 8) (by omega) res ▸ State.putFlags_after s (logicFlags res)

/-! ## 16-bit results -/

theorem setHL_eq (s : State) (res : Word) (w : FlagWrites) (len : Word) :
    ((s.setHL res).putFlags w).advance len = { s with
      h := hiByte res, l := loByte res, f := (s.putFlags w).f, draws := (s.putFlags w).draws, pc := s.pc + len } := by
  rw [State.putFlags_advance s] <;> rfl

/-- Settles O44: the four rows are one subtraction from HL. -/
theorem sbcHlResult : Obligations.SbcHlResult := by
  rintro s i y h _ rfl
  have runs : exec i s = sbcHL y s := by
    simp only [List.mem_cons, Prod.mk.injEq, List.not_mem_nil, or_false] at h
    obtain ⟨rfl, rfl⟩ | ⟨rfl, rfl⟩ | ⟨rfl, rfl⟩ | ⟨rfl, rfl⟩ := h <;> rfl
  refine ⟨difference s.hl y (flagC s.f), _, _, runs.trans (congrArg _ (setHL_eq ..)),
    difference_toNat (by omega) .., ?_⟩
  exact sbcFlags_eq s.hl y (flagC s.f) ▸ State.putFlags_after s (sbcFlags s.hl y (flagC s.f))

theorem logicFlags_after (s : State) (res : Word) :
    FlagsAfter s ⟨.believed (res.getLsbD 15), .believed (decide (res = 0)), .believed (decide (4096 ≤ res.toNat)),
      .believed false⟩ (s.putFlags (logicFlags res)).f (s.putFlags (logicFlags res)).draws :=
  logicFlags_eq (w := 16) (by omega) res ▸ State.putFlags_after s (logicFlags res)

/-- Settles O46: the three results, each with its logic flags. -/
theorem orDeResult : Obligations.OrDeResult := by
  intro s
  refine ⟨⟨_, _, _, rfl, ?_, logicFlags_after s _⟩, ⟨_, _, _, rfl, ?_, logicFlags_after s _⟩,
    ⟨_, _, _, rfl, ?_, logicFlags_after s _⟩⟩
  · exact congrArg _ (setHL_eq ..)
  · show orIndex .ix s = _
    rw [orIndex, State.putFlags_advance s] <;> rfl
  · show orIndex .iy s = _
    rw [orIndex, State.putFlags_advance s] <;> rfl

/-! ## NOP and SCF -/

theorem flags_eq (s : State) (w : FlagWrites) (len : Word) :
    (s.putFlags w).advance len =
      { s with f := (s.putFlags w).f, draws := (s.putFlags w).draws, pc := s.pc + len } :=
  State.putFlags_advance s s w len rfl rfl rfl

/-- Settles O47: both are a write of flags and an advance. -/
theorem nopAndScf : Obligations.NopAndScf := fun s =>
  ⟨⟨_, _, congrArg _ (flags_eq s noFlags 1), State.putFlags_after s noFlags⟩,
    ⟨_, _, congrArg _ (flags_eq s (carryOnly true) 1), State.putFlags_after s (carryOnly true)⟩⟩

end Sys2Proof.Arith
end

section
/-! PROOFS. The stack, and system and user mode (45_stack.md, 48_system.md). -/

namespace Sys2Proof.Stack

open Sys2Proof.Machine Sys2Proof.Control Sys2Proof.Stops Sys2Proof.Arith

variable {s t : State}

/-! ## Pops -/

theorem popInto_of {lo hi : Byte} (len : Word) (put : State → Word → State) (hlo : s.readByte s.sp = some lo)
    (hhi : s.readByte (s.sp + 1) = some hi) :
    popInto len put s = .next (((put { s with sp := s.sp + 2 } (word hi lo)).putFlags noFlags).advance len) := by
  rw [popInto, State.popWord_of _ hlo hhi]

theorem setBC_word (s : State) (hi lo : Byte) : s.setBC (word hi lo) = { s with b := hi, c := lo } := by
  rw [State.setBC, hiByte_word, loByte_word]

theorem setDE_word (s : State) (hi lo : Byte) : s.setDE (word hi lo) = { s with d := hi, e := lo } := by
  rw [State.setDE, hiByte_word, loByte_word]

/-- Settles O48: each row is the pop of a word into its destination. -/
theorem popWords : Obligations.PopWords := by
  intro s lo hi hlo hhi
  refine ⟨?_, _, _, State.putFlags_after s noFlags, ?_, ?_, ?_, ?_, ?_⟩
  · show execPopAF s = _
    rw [execPopAF, State.popWord_of _ hlo hhi, hiByte_word, loByte_word]; rfl
  · show popInto 1 State.setBC s = _
    rw [popInto_of _ _ hlo hhi, setBC_word, State.putFlags_advance s] <;> rfl
  · show popInto 1 State.setDE s = _
    rw [popInto_of _ _ hlo hhi, setDE_word, State.putFlags_advance s] <;> rfl
  · show popInto 1 State.setHL s = _
    rw [popInto_of _ _ hlo hhi, setHL_word, State.putFlags_advance s] <;> rfl
  · show popInto 2 (fun s v => s.setIndex .ix v) s = _
    rw [popInto_of _ _ hlo hhi, State.putFlags_advance s] <;> rfl
  · show popInto 2 (fun s v => s.setIndex .iy v) s = _
    rw [popInto_of _ _ hlo hhi, State.putFlags_advance s] <;> rfl

/-- Settles O49: the check passes, then the byte is popped. -/
theorem popIpAndSu : Obligations.PopIpAndSu := by
  intro s v hu hv
  refine ⟨_, _, State.putFlags_after s noFlags, ?_, ?_⟩
  · rw [exec_popIP, State.privileged_of _ hu, State.popByte_of (s := { s with inhibit := true }) _ hv,
      State.putFlags_advance s] <;> rfl
  · rw [exec_popSU, State.privileged_of _ hu, State.popByte_of (s := { s with inhibit := true }) _ hv,
      State.putFlags_advance s] <;> rfl

/-! ## Pushes -/

theorem pushFrom_eq (v len : Word) (s : State) :
    pushFrom v len s = .next { s with
      mem := (s.mem.write (s.translate (s.sp - 1)) (hiByte v)).write (s.translate (s.sp - 2)) (loByte v),
      sp := s.sp - 2, f := (s.putFlags noFlags).f, draws := (s.putFlags noFlags).draws, pc := s.pc + len } := by
  rw [pushFrom, State.putFlags_advance s] <;> rfl

/-- A word of two given bytes, pushed. -/
theorem pushFrom_word (hi lo : Byte) (len : Word) (s : State) :
    ∃ m, pushFrom (word hi lo) len s = .next { s with
        mem := m, sp := s.sp - 2, f := (s.putFlags noFlags).f, draws := (s.putFlags noFlags).draws,
        pc := s.pc + len } ∧
      StoredTwo s.mem m (s.translate (s.sp - 1)) hi (s.translate (s.sp - 2)) lo := by
  refine ⟨_, pushFrom_eq .., ?_⟩
  rw [hiByte_word, loByte_word]
  exact Memory.write_storedTwo _ _ _ _ _

/-- Settles O50: each row is the push of its two bytes. -/
theorem pushWords : Obligations.PushWords := by
  intro s i hi lo h
  have pushes : exec i s = pushFrom (word hi lo) (encodedLen i) s := by
    simp only [List.mem_cons, Prod.mk.injEq, List.not_mem_nil, or_false] at h
    obtain ⟨rfl, rfl, rfl⟩ | ⟨rfl, rfl, rfl⟩ | ⟨rfl, rfl, rfl⟩ | ⟨rfl, rfl, rfl⟩ | ⟨rfl, rfl, rfl⟩ := h
    · rfl
    · rfl
    · rfl
    · exact congrArg (pushFrom · 2 s) (word_hiByte_loByte s.ix).symm
    · exact congrArg (pushFrom · 2 s) (word_hiByte_loByte s.iy).symm
  obtain ⟨m, hm, hstored⟩ := pushFrom_word hi lo (encodedLen i) s
  exact ⟨m, _, _, pushes.trans hm, hstored, State.putFlags_after s noFlags⟩

/-- The write of no flag keeps F where the table is trusted. -/
theorem putFlags_noFlags_f (h : s.config.flagTableTrusted = true) : (s.putFlags noFlags).f = s.f := by
  simp [h, FlagWrites.apply, noFlags, FlagWrite.value]

/-- Settles O51: the pushed byte is the flags of F mixed with a free value. -/
theorem pushAf : Obligations.PushAf := by
  intro s
  obtain ⟨m, hm, hstored⟩ :=
    pushFrom_word s.a (mixFlags s.f (Config.draw s.draws)) 1 { s with draws := s.draws + 1 }
  obtain ⟨-, -, -, -, hspare, -⟩ := State.putFlags_after { s with draws := s.draws + 1 } noFlags
  exact ⟨m, _, _, _, hm, mixFlags_flags .., hstored, hspare,
    fun h => putFlags_noFlags_f (s := { s with draws := s.draws + 1 }) h⟩

theorem pushByteFrom_eq (v : Byte) (s : State) :
    pushByteFrom v s = .next { s with
      mem := s.mem.write (s.translate (s.sp - 1)) v, sp := s.sp - 1,
      f := (s.putFlags noFlags).f, draws := (s.putFlags noFlags).draws, pc := s.pc + 2 } := by
  rw [pushByteFrom, State.putFlags_advance s] <;> rfl

/-- Settles O52: PUSH SU is the push after the check. -/
theorem pushIpAndSu : Obligations.PushIpAndSu := by
  intro s
  refine ⟨⟨_, _, _, pushByteFrom_eq s.ip s, Memory.write_stored s.mem _ _, State.putFlags_after s noFlags⟩,
    fun hu => ⟨_, _, _, ?_, Memory.write_stored s.mem _ _, State.putFlags_after s noFlags⟩⟩
  rw [exec_pushSU, State.privileged_of _ hu, pushByteFrom, State.putFlags_advance s] <;> rfl

/-! ## PUSH, then POP -/

theorem exec_pushPair {zz : Pair} {v : Word} (h : (zz, v) ∈ [(.bc, s.bc), (.de, s.de), (.hl, s.hl)]) :
    exec (.pushPair zz) s = pushFrom v 1 s := by
  simp only [List.mem_cons, Prod.mk.injEq, List.not_mem_nil, or_false] at h
  obtain ⟨rfl, rfl⟩ | ⟨rfl, rfl⟩ | ⟨rfl, rfl⟩ := h <;> rfl

/-- POP of BC, DE or HL, where the word at SP is `v`. -/
theorem exec_popPair_of {ww : Pair} (hww : ww ≠ .af) {v : Word} (hlo : t.readByte t.sp = some (loByte v))
    (hhi : t.readByte (t.sp + 1) = some (hiByte v)) :
    ∃ u, exec (.popPair ww) t = .next u ∧ u.sp = t.sp + 2 ∧ u.mem = t.mem ∧
      (ww = .bc → u.bc = v) ∧ (ww = .de → u.de = v) ∧ (ww = .hl → u.hl = v) := by
  cases ww with
  | bc => exact ⟨_, popInto_of 1 State.setBC hlo hhi, by simp, by simp, by simp [State.bc], nofun, nofun⟩
  | de => exact ⟨_, popInto_of 1 State.setDE hlo hhi, by simp, by simp, nofun, by simp [State.de], nofun⟩
  | hl => exact ⟨_, popInto_of 1 State.setHL hlo hhi, by simp, by simp, nofun, nofun, by simp [State.hl]⟩
  | af => exact absurd rfl hww

/-- Settles O53: the frame is read back as it was pushed, because its two bytes do not overlap. -/
theorem popUndoesPush : Obligations.PopUndoesPush := by
  intro s t zz ww v hzz hww h hframe
  rw [exec_pushPair hzz, pushFrom_eq] at h
  injection h with h
  have hsp : t.sp = s.sp - 2 := by rw [← h]
  have htr (a : Word) : t.translate a = s.translate a := by rw [← h]; exact State.translate_congr rfl rfl rfl rfl rfl a
  have hm : StoredTwo s.mem t.mem (s.translate (s.sp - 1)) (hiByte v) (s.translate (s.sp - 2)) (loByte v) := by
    rw [← h]; exact Memory.write_storedTwo _ _ _ _ _
  obtain ⟨hlo, hhi⟩ := readByte_of_pushed hsp htr hm (frame_apart hframe)
  obtain ⟨u, hu, husp, hpopped⟩ := exec_popPair_of hww hlo hhi
  exact ⟨u, hu, by rw [husp, hsp, BitVec.sub_add_cancel], hpopped⟩

/-! ## RDMODE, SETUSR, SURES -/

/-- One mode rotated out of SU and back in at the top. -/
theorem su_rotated (su : Byte) : su.extractLsb' 0 2 ++ su.extractLsb' 2 6 = su.rotateRight 2 := by
  revert su; decide

/-- Settles O60: RDMODE writes one flag; the other two write SU after the check. -/
theorem modeInstructions : Obligations.ModeInstructions := by
  intro s
  refine ⟨⟨_, _, congrArg _ (flags_eq s (carryOnly (s.su.getLsbD 0)) 2), State.putFlags_after s _⟩,
    fun hu => ⟨_, _, State.putFlags_after s noFlags, ?_, ?_⟩⟩
  · rw [exec_setusr, State.privileged_of _ hu, State.putFlags_advance s] <;> rfl
  · rw [exec_sures, State.privileged_of _ hu, State.putFlags_advance s, su_rotated] <;> rfl

end Sys2Proof.Stack
end

section
/-! PROOFS. Bits, rotates and shifts (46_bit.md, 47_rotate_shift.md). -/

namespace Sys2Proof.Bits

open Sys2Proof.Machine Sys2Proof.Arith

/-! ## A result in a register or in the operand's byte -/

theorem register_eq (s : State) (r : Reg8) (res : Byte) (w : FlagWrites) (len : Word) :
    ((s.setR r res).putFlags w).advance len = { s with
      f := (s.putFlags w).f, draws := (s.putFlags w).draws, pc := s.pc + len }.setR r res := by
  rw [State.putFlags_advance s] <;> cases r <;> rfl

theorem memory_eq (s : State) (a : Word) (res : Byte) (w : FlagWrites) (len : Word) :
    ((s.store a res).putFlags w).advance len = { s with
      mem := s.mem.write (s.translate a) res, f := (s.putFlags w).f, draws := (s.putFlags w).draws,
      pc := s.pc + len } := by
  rw [State.putFlags_advance s] <;> rfl

theorem addressOf_ea (s : State) (m : MemArg) : AddressOf s m (s.ea m) := (s.addressOf_iff m _).mpr rfl

/-! ## RES and SET -/

/-- The one bit is cleared or set, the others stay. -/
theorem bitResult_getLsbD (op : BitOp) (b : Fin 8) (x : Byte) (k : Nat) (hk : k < 8) :
    (bitResult op b x).getLsbD k = if k = b.val then decide (op = .set) else x.getLsbD k := by
  have hmask : (1#8 <<< b.val).getLsbD k = decide (k = b.val) := by
    have all : ∀ (b : Fin 8) (k : Fin 8), (1#8 <<< b.val).getLsbD k.val = decide (k.val = b.val) := by decide
    exact all b ⟨k, hk⟩
  cases op with
  | res =>
    rw [bitResult, BitVec.getLsbD_and, BitVec.getLsbD_not, hmask]
    by_cases h : k = b.val <;> simp [hk, h]
  | set =>
    rw [bitResult, BitVec.getLsbD_or, hmask]
    by_cases h : k = b.val <;> simp [h]

/-- Settles O54: the result goes to the register it came from. -/
theorem bitOfRegister : Obligations.BitOfRegister := by
  intro s op b r
  exact ⟨bitResult op b (s.getR r), _, _, (exec_bitReg op b r s).trans (congrArg _ (register_eq ..)),
    fun k hk => bitResult_getLsbD op b _ k hk, State.putFlags_after s noFlags⟩

theorem encodedLen_bitAt (op : BitOp) (b : Fin 8) (m : MemArg) : encodedLen (.bitAt op b m) = cbLength m := by
  cases op <;> fin_cases b <;> rcases m with _ | ⟨_ | _, d⟩ <;> rfl

/-- Settles O55: the result goes to the address it came from. -/
theorem bitOfMemory : Obligations.BitOfMemory := by
  intro s op b a x hx
  refine ⟨bitResult op b x, _, _, _, ?_, fun k hk => bitResult_getLsbD op b x k hk, addressOf_ea s a,
    Memory.write_stored s.mem _ _, State.putFlags_after s noFlags⟩
  rw [exec_bitAt, ← encodedLen_bitAt op b, bitMemory, State.load_of _ hx]
  exact congrArg _ (memory_eq ..)

/-! ## The rotates and shifts of a byte -/

/-- R270's seven results and bits shifted out are the machine's. -/
theorem rot_of_mem {x : Byte} {c : Bool} {op : Rot} {res : Byte} {co : Bool}
    (h : (op, res, co) ∈
      [(.rl, (x.extractLsb' 0 7 ++ BitVec.ofBool c : Byte), x.getLsbD 7),
       (.rlc, x.rotateLeft 1, x.getLsbD 7),
       (.rr, (BitVec.ofBool c ++ x.extractLsb' 1 7 : Byte), x.getLsbD 0),
       (.rrc, x.rotateRight 1, x.getLsbD 0),
       (.sla, x <<< 1, x.getLsbD 7),
       (.sra, x.sshiftRight 1, x.getLsbD 0),
       (.srl, x >>> 1, x.getLsbD 0)]) : rotResult op x c = res ∧ rotCarry op x = co := by
  simp only [List.mem_cons, Prod.mk.injEq, List.not_mem_nil, or_false] at h
  obtain ⟨rfl, rfl, rfl⟩ | ⟨rfl, rfl, rfl⟩ | ⟨rfl, rfl, rfl⟩ | ⟨rfl, rfl, rfl⟩ | ⟨rfl, rfl, rfl⟩ | ⟨rfl, rfl, rfl⟩ |
    ⟨rfl, rfl, rfl⟩ := h <;> refine ⟨?_, rfl⟩
  case inl | inr.inr.inl => rfl
  all_goals revert x c; decide

theorem shiftFlags_after (s : State) (res : Byte) (co : Bool) :
    FlagsAfter s ⟨.believed (res.getLsbD 7), .believed (decide (res = 0)), .believed (decide (16 ≤ res.toNat)),
      .stated co⟩ (s.putFlags (shiftFlags res co)).f (s.putFlags (shiftFlags res co)).draws :=
  shiftFlags_eq (w := 8) (by omega) res co ▸ State.putFlags_after s (shiftFlags res co)

/-- Settles O56: R270's table gives the machine's result and carry. -/
theorem rotateOfRegister : Obligations.RotateOfRegister := by
  intro s r op res co h
  obtain ⟨hres, hco⟩ := rot_of_mem h
  refine ⟨_, _, ?_, shiftFlags_after s res co⟩
  rw [exec_rotReg, rotRegister, hres, hco, register_eq]

theorem encodedLen_rotAt (op : Rot) (m : MemArg) : encodedLen (.rotAt op m) = cbLength m := by
  cases op <;> rcases m with _ | ⟨_ | _, d⟩ <;> rfl

/-- Settles O57: R270's table gives the machine's result and carry, stored at the address read. -/
theorem rotateOfMemory : Obligations.RotateOfMemory := by
  intro s a x op res co hx h
  obtain ⟨hres, hco⟩ := rot_of_mem h
  refine ⟨_, _, _, ?_, addressOf_ea s a, Memory.write_stored s.mem _ _, shiftFlags_after s res co⟩
  rw [exec_rotAt, ← encodedLen_rotAt op, rotMemory, State.load_of _ hx, hres, hco]
  exact congrArg _ (memory_eq ..)

/-- Settles O58: RLA, RLCA, RRA and RRCA are R270's RL, RLC, RR and RRC on A. -/
theorem rotateOfAccumulator : Obligations.RotateOfAccumulator := by
  intro s i res co h
  obtain ⟨op, runs, hmem⟩ : ∃ op, exec i s = rotAccumulator op s ∧ rotResult op s.a (flagC s.f) = res ∧
      rotCarry op s.a = co := by
    simp only [List.mem_cons, Prod.mk.injEq, List.not_mem_nil, or_false] at h
    obtain ⟨rfl, rfl, rfl⟩ | ⟨rfl, rfl, rfl⟩ | ⟨rfl, rfl, rfl⟩ | ⟨rfl, rfl, rfl⟩ := h
    exacts [⟨.rl, rfl, rot_of_mem (by simp)⟩, ⟨.rlc, rfl, rot_of_mem (by simp)⟩, ⟨.rr, rfl, rot_of_mem (by simp)⟩,
      ⟨.rrc, rfl, rot_of_mem (by simp)⟩]
  obtain ⟨rfl, rfl⟩ := hmem
  exact ⟨_, _, runs.trans (congrArg _ (accumulator_eq ..)), State.putFlags_after s (carryOnly _)⟩

/-! ## The 16-bit rotates -/

theorem toNat_getLsbD_15 (x : Word) : (x.getLsbD 15).toNat = x.toNat / 2 ^ 15 := by
  have := x.isLt
  rw [BitVec.getLsbD, Nat.testBit_eq_decide_div_mod_eq]
  obtain h | h : x.toNat / 2 ^ 15 = 0 ∨ x.toNat / 2 ^ 15 = 1 := by omega
  all_goals rw [h]; rfl

theorem toNat_getLsbD_0 (x : Word) : (x.getLsbD 0).toNat = x.toNat % 2 := by
  rw [BitVec.getLsbD, Nat.testBit_eq_decide_div_mod_eq, Nat.pow_zero, Nat.div_one]
  obtain h | h := Nat.mod_two_eq_zero_or_one x.toNat
  all_goals rw [h]; rfl

/-- RL rotates the 17 bits of C and the word left by one. -/
theorem rl16_rotates (x : Word) (c : Bool) :
    (x.getLsbD 15).toNat * 65536 + (rl16 x c).toNat = 2 * x.toNat + c.toNat := by
  have := x.isLt
  rw [toNat_getLsbD_15, rl16, toNat_append_eq, BitVec.extractLsb'_toNat, BitVec.toNat_ofBool]
  omega

/-- RR rotates them right by one. -/
theorem rr16_rotates (x : Word) (c : Bool) :
    2 * (rr16 x c).toNat + (x.getLsbD 0).toNat = c.toNat * 65536 + x.toNat := by
  have := x.isLt
  rw [toNat_getLsbD_0, rr16, toNat_append_eq, BitVec.extractLsb'_toNat, BitVec.toNat_ofBool]
  omega

theorem shiftFlags_after_word (s : State) (res : Word) (co : Bool) :
    FlagsAfter s ⟨.believed (res.getLsbD 15), .believed (decide (res = 0)), .believed (decide (4096 ≤ res.toNat)),
      .stated co⟩ (s.putFlags (shiftFlags res co)).f (s.putFlags (shiftFlags res co)).draws :=
  shiftFlags_eq (w := 16) (by omega) res co ▸ State.putFlags_after s (shiftFlags res co)

theorem setDE_eq (s : State) (res : Word) (w : FlagWrites) (len : Word) :
    ((s.setDE res).putFlags w).advance len = { s with
      d := hiByte res, e := loByte res, f := (s.putFlags w).f, draws := (s.putFlags w).draws, pc := s.pc + len } := by
  rw [State.putFlags_advance s] <;> rfl

theorem setIndex_eq (s : State) (k : Index) (res : Word) (w : FlagWrites) (len : Word) :
    ((s.setIndex k res).putFlags w).advance len = { s with
      f := (s.putFlags w).f, draws := (s.putFlags w).draws, pc := s.pc + len }.setIndex k res := by
  rw [State.putFlags_advance s] <;> cases k <;> rfl

/-- Settles O59: RL DE and the four RR are the 17-bit rotations of `rl16_rotates` and `rr16_rotates`. -/
theorem rotateOfWord : Obligations.RotateOfWord := by
  rintro s _ rfl
  refine ⟨⟨rl16 s.de (flagC s.f), s.de.getLsbD 15, _, _, congrArg _ (setDE_eq ..), rl16_rotates .., ?_⟩,
    fun i x h => ⟨rr16 x (flagC s.f), x.getLsbD 0, _, _, ?_, ?_, ?_, ?_, rr16_rotates .., shiftFlags_after_word ..⟩⟩
  · exact shiftFlags_after_word ..
  all_goals
    rintro rfl
    simp only [List.mem_cons, Prod.mk.injEq, List.not_mem_nil, or_false, reduceCtorEq, false_and, true_and,
      false_or] at h
    subst h
  · exact congrArg _ (setDE_eq ..)
  · exact congrArg _ (setHL_eq ..)
  · exact congrArg _ (setIndex_eq s .ix ..)
  · exact congrArg _ (setIndex_eq s .iy ..)

end Sys2Proof.Bits
end
